-- ==== Sys2Proof/Word.lean ====
section
/-!
DEFINITION. The widths of every value of the engine (spec/00_scope.md R7, R8, R10).
Every value is an unsigned bit vector of a stated width; bit 0 is the least significant bit.
-/

namespace Sys2Proof

/-- A byte: 8 bits (R7). -/
abbrev Byte := BitVec 8

/-- An accumulator, a table entry, a response: `CRCW` = `TABW` = 32 bits, unsigned (R7). -/
abbrev Word := BitVec 32

/-- A buffer address: `AW` = 64 bits (R8). -/
abbrev Addr := BitVec 64

/-- A buffer length: `LENW` = 64 bits (R7). -/
abbrev Len := BitVec 64

/-- A command packet: 168 bits (spec/30_encoding.md R91). -/
abbrev Packet := BitVec 168

end Sys2Proof
end

