-- ==== Sys2Proof/Config.lean ====
section
/-!
DEFINITION. What is fixed for one engine (spec/00_scope.md R7 to R9, spec/10_state.md R33) and the one free value
of the model (spec/10_state.md R34).
-/

namespace Sys2Proof

/-- The parameters of one engine.
`hwavail` is the constant input `HWAVAIL`, the answer of the external capability probe (R9).
`nctx` is `NCTX`, the number of requester contexts (R8, spec/60_exceptions.md R236).
State carries a `Config` because the host's `step` takes a state only; no step changes it (notes/assumptions/1.md). -/
structure Config where
  hwavail : Bool
  nctx : Nat
  deriving DecidableEq, Repr

namespace Config

/-- `POLY_NORMAL`, the Castagnoli polynomial in normal form (R3, R7). -/
def polyNormal : Word := 0x1EDC6F41#32

/-- `POLY_REFLECTED`, the form the engine uses (R3, R7). -/
def polyReflected : Word := 0x82F63B78#32

/-- The first number that is no address: 2 to the power `AW` (R8, R13). -/
def addressSpace : Nat := 2 ^ 64

/-- FREE VALUE: what a reset event leaves in a context's `ACC`, "it may hold any 32-bit value, and two resets need not
leave the same value" (R34, spec/93_implementation_defined.md U2).
The first argument counts reset events, the second is the context.
It has no body, so a claim about it holds of every value (notes/assumptions/4.md). -/
opaque accDraw : Nat → Nat → Word

end Config

end Sys2Proof
end

