-- ==== Sys2Proof/Syntax.lean ====
section
/-!
DEFINITION. The 13 commands of the engine (spec/30_encoding.md R92), with the operands their formats use (R93, R96).
A field that a format ignores is no field of the constructor.
Every operand has the width the spec gives it, so every value of `Instr` is a command the engine can receive.
-/

namespace Sys2Proof

/-- One command of the engine, as the decoder gives it. -/
inductive Instr where
  /-- `RDACC`, op `0x00`, format S (R122). -/
  | rdacc
  /-- `LDACC crc`, op `0x01`, format S (R123). -/
  | ldacc (crc : Word)
  /-- `RDSTAT`, op `0x02`, format S (R126). -/
  | rdstat
  /-- `WRCTL v`, op `0x03`, format S: `fsw` is `cmd.arg[0]` (R127). -/
  | wrctl (fsw : Bool)
  /-- `PROBE`, op `0x04`, format S (R125). -/
  | probe
  /-- `FB8 d`, op `0x40`, format D: `d` is `cmd.arg[7:0]` (R143). -/
  | fb8 (d : BitVec 8)
  /-- `FB16 d`, op `0x41`, format D: `d` is `cmd.arg[15:0]` (R144). -/
  | fb16 (d : BitVec 16)
  /-- `FB64 d`, op `0x43`, format D: `d` is `cmd.arg` (R145). -/
  | fb64 (d : BitVec 64)
  /-- `TBL8 d`, op `0x80`, format D: `d` is `cmd.arg[7:0]` (R162). -/
  | tbl8 (d : BitVec 8)
  /-- `SB8 w0, w1`, op `0x83`, format D: `w0` is `cmd.arg[31:0]`, `w1` is `cmd.arg[63:32]` (R164, R96). -/
  | sb8 (w0 w1 : Word)
  /-- `CKSUM crc, addr, len`, op `0xC0`, format B (R181). -/
  | cksum (crc : Word) (addr : Addr) (len : Len)
  /-- `HWSUM crc, addr, len`, op `0xC1`, format B (R146). -/
  | hwsum (crc : Word) (addr : Addr) (len : Len)
  /-- `SWSUM crc, addr, len`, op `0xC2`, format B (R166). -/
  | swsum (crc : Word) (addr : Addr) (len : Len)
  deriving DecidableEq, Repr

end Sys2Proof
end

