-- ==== Sys2Proof/Machine/State.lean ====
section
/-!
DEFINITION. The state of the engine (spec/10_state.md R20), what the outside presents to it, how it can stop, and reset.
-/

namespace Sys2Proof.Machine

/-- The input buffer space: the readable byte addresses and their bytes, `Admit` and `Mem` in one (spec/20_memory.md
R73, notes/assumptions/2.md).
A listed address is readable and holds its byte; an address that is not listed is not readable. -/
abbrev Memory := List Host.Cell

/-- The canonical form of memory: addresses strictly rising, all inside the 64-bit address space.
An unlisted address reads as nothing, so no entry can equal what an unlisted address reads as. -/
abbrev Memory.wf (m : Memory) : Prop :=
  m.Pairwise (fun x y => x.1 < y.1) ∧ ∀ x ∈ m, x.1 < Config.addressSpace

/-- What the outside world does to the engine, one event between two commands at the most
(spec/30_encoding.md R90; notes/assumptions/5.md, 6.md). -/
inductive Input where
  /-- Requester context `ctx` presents a command packet (R90, spec/60_exceptions.md R236). -/
  | command (ctx : Nat) (packet : Packet)
  /-- The reset event (spec/70_reset_and_hazards.md R250). -/
  | reset
  /-- The platform makes a byte of the input buffer space readable with this content, or (`none`) not readable:
  the buffer belongs to the caller between commands (spec/20_memory.md R61, R72; spec/70_reset_and_hazards.md R257). -/
  | platform (addr : Addr) (content : Option Byte)
  deriving DecidableEq, Repr

/-- The state of one engine. -/
structure State where
  /-- The parameters of the engine: `HWAVAIL` and `NCTX` (spec/10_state.md R33). No step changes them. -/
  cfg : Config
  /-- The caller's memory as the platform shows it (spec/20_memory.md R61, R73). No command changes it (R63). -/
  mem : Memory
  /-- `ACC`, one 32-bit accumulator for each requester context, context 0 first (R20, R21, R236). -/
  accs : List Word
  /-- `STATUS.CAPV`: the capability flag has been probed and cached (R20, R27). -/
  capv : Bool
  /-- `STATUS.CAPF`: the cached answer of the Capability Gate (R20, R27). -/
  capf : Bool
  /-- `CTRL.FSW`: force the Software Path in `CKSUM` (R20, R28). -/
  fsw : Bool
  /-- The requester context whose command is at the engine, and to which `rsp` goes (spec/60_exceptions.md R236). -/
  ctx : Nat
  /-- The response of the latest command, `none` before the first (spec/30_encoding.md R97). An output, not architectural. -/
  rsp : Option Word
  /-- What the outside will present, the next event first (notes/assumptions/5.md). -/
  inputs : List Input
  /-- The model's own field: how many reset events have been taken, from which the free value of `ACC` after a reset event
  is drawn (notes/assumptions/4.md). -/
  resets : Nat
  deriving DecidableEq, Repr

/-- How a command ends without a response (spec/60_exceptions.md R221). Both are model-level outcomes; neither writes
anything (R224), and no continuation is defined (R230). -/
inductive Fault where
  /-- `BufferFault(addr)`: `HWSUM`, `SWSUM`, `CKSUM` on a buffer that is not admitted; `addr` is the first such address,
  counted without wrap (R221, R222). Safe: the spec's own outcome. -/
  | bufferFault (addr : Nat)
  /-- `HwUnavailable`: `FB8`, `FB16`, `FB64`, `HWSUM` on an engine without the feedback network (R225).
  Safe: the spec's own outcome. -/
  | hwUnavailable
  deriving DecidableEq, Repr

/-- Why the model gives what is presented no meaning. -/
inductive Refusal where
  /-- An instruction that is not modelled yet. Safe. No arm of `exec` raises it: every command has its meaning. -/
  | notModelled (mnemonic : String)
  /-- `ReservedCommand(op)`, raised by `step` for a packet whose opcode the decoder rejects (R221, R223). Safe: the spec's
  own outcome. -/
  | reservedCommand (op : Byte)
  /-- A command of a requester context the engine does not have: contexts are numbered from 0 and there are `NCTX` of them
  (R236). Raised by `step`, and by every operation that reads or writes `ACC`. Safe: no engine receives such a command. -/
  | noContext (ctx : Nat)
  deriving DecidableEq, Repr

/-- The state right after the reset that starts a run, for any engine, any readable memory, any accumulators left by the
reset and any events to come: `CAPV` = 0, `CAPF` = 0, `FSW` = 0; `ACC` "may hold any 32-bit value" (R34).
Reset does not probe the gate, reads no memory and starts no command (spec/70_reset_and_hazards.md R252). -/
def State.afterReset (cfg : Config) (mem : Memory) (accs : List Word) (inputs : List Input) : State where
  cfg := cfg
  mem := mem
  accs := accs
  capv := false
  capf := false
  fsw := false
  ctx := 0
  rsp := none
  inputs := inputs
  resets := 0

/-- The machine right after reset, for the host to run.
DESIGN CHOICE: the spec gives `ACC` no value after reset; here it is zero (notes/assumptions/3.md).
DESIGN CHOICE: the engine has the feedback network, and one requester context (notes/assumptions/1.md).
Memory lists nothing and nothing is presented. Statements about reset are made of `State.afterReset`. -/
def State.reset : State := State.afterReset ⟨true, 1⟩ [] [0#32] []

end Sys2Proof.Machine
end

