-- ==== Sys2Proof/Machine/Ops.lean ====
section
/-!
DEFINITION. The shared operations over memory, the accumulator and the response, and the ways a command ends.
-/

namespace Sys2Proof.Machine

/-! ### The input buffer space (spec/20_memory.md) -/

/-- The byte listed for an address. -/
def Memory.find : Memory → Nat → Option Byte
  | [], _ => none
  | (k, b) :: m, a => if k = a then some b else Memory.find m a

/-- The read of one byte: `some b` when `Admit(a)` holds and `Mem[a]` is `b`, `none` when `Admit(a)` is false (R73).
No number from 2^64 on is an address (spec/00_scope.md R13). -/
def Memory.byte? (m : Memory) (a : Nat) : Option Byte :=
  if a < Config.addressSpace then m.find a else none

/-- The bytes at `a, a + 1, ..., a + n - 1`, if all are readable (R61, R73). -/
def Memory.bytes (m : Memory) (a : Nat) : Nat → Option (List Byte)
  | 0 => some []
  | n + 1 =>
    match m.byte? a with
    | some b => (Memory.bytes m (a + 1) n).map (b :: ·)
    | none => none

/-- The first of the `n` addresses from `a` on that is not readable; `none` when the buffer is admitted (R74).
The addresses are counted without wrap, so a buffer that passes the top of the address space has 2^64 among them. -/
def Memory.firstUnreadable (m : Memory) (a : Nat) : Nat → Option Nat
  | 0 => none
  | n + 1 =>
    match m.byte? a with
    | some _ => Memory.firstUnreadable m (a + 1) n
    | none => some a

/-- The platform sets what one address reads as: a byte, or (`none`) not readable. Keeps the list strictly rising. -/
def Memory.put : Memory → Nat → Option Byte → Memory
  | [], a, some b => [(a, b)]
  | [], _, none => []
  | (k, x) :: m, a, v =>
    if a < k then
      match v with
      | some b => (a, b) :: (k, x) :: m
      | none => (k, x) :: m
    else if a = k then
      match v with
      | some b => (a, b) :: m
      | none => m
    else (k, x) :: Memory.put m a v

/-! ### How a command ends -/

/-- A command ends in a fault: no state is written and no response is produced (spec/60_exceptions.md R224).
This is all there is to taking an exception on this engine: nothing is saved, no mode changes, control goes nowhere, and
there is no return (R229, R230). -/
def raise (f : Fault) : Host.Outcome State Fault Refusal := .fault f

/-- `rsp <- v`, nothing else written. -/
def respond (s : State) (v : Word) : Host.Outcome State Fault Refusal := .next { s with rsp := some v }

/-- `ACC` of the requester context whose command is at the engine (spec/60_exceptions.md R236). -/
def State.acc? (s : State) : Option Word := s.accs[s.ctx]?

/-- `rsp <- ACC`, nothing else written. -/
def respondAcc (s : State) : Host.Outcome State Fault Refusal :=
  match s.acc? with
  | some a => respond s a
  | none => .refused (.noContext s.ctx)

/-- `ACC <- f(ACC)` for the requester's own `ACC`, and `rsp <- ACC`, the new value (spec/10_state.md R22, R23). -/
def updateAcc (s : State) (f : Word → Word) : Host.Outcome State Fault Refusal :=
  match s.acc? with
  | some a => respond { s with accs := s.accs.set s.ctx (f a) } (f a)
  | none => .refused (.noContext s.ctx)

/-- `ACC <- c; rsp <- c` with the final accumulator of a buffer command, or the fault of one of its reads. -/
def finishSum (s : State) (r : Except Fault Word) : Host.Outcome State Fault Refusal :=
  match r with
  | .ok c => updateAcc s fun _ => c
  | .error f => raise f

/-- The admission check of a buffer command, made for the whole buffer before its first step: `BufferFault` at the first
address that is not admitted, else the command goes on (R74; spec/60_exceptions.md R221, R224). -/
def whenAdmitted (s : State) (addr : Addr) (len : Len) (k : Host.Outcome State Fault Refusal) :
    Host.Outcome State Fault Refusal :=
  match s.mem.firstUnreadable addr.toNat len.toNat with
  | some a => raise (.bufferFault a)
  | none => k

/-- The availability check of the feedback network: `HwUnavailable` when `HWAVAIL` = 0, else the command goes on
(spec/41_hardware_path.md R141). -/
def whenAvailable (s : State) (k : Host.Outcome State Fault Refusal) : Host.Outcome State Fault Refusal :=
  if s.cfg.hwavail then k else raise .hwUnavailable

/-! ### What an event of the outside does -/

/-- A command of context `c` is taken from the port (spec/30_encoding.md R90). -/
def State.accept (s : State) (c : Nat) (rest : List Input) : State := { s with ctx := c, inputs := rest }

/-- The reset event: the three flags 0, every `ACC` unspecified, memory and parameters as they were
(spec/10_state.md R34, spec/70_reset_and_hazards.md R250 to R252). No response stands after it. -/
def State.takeReset (s : State) (rest : List Input) : State :=
  { s with
    accs := (List.range s.cfg.nctx).map (Config.accDraw s.resets)
    capv := false
    capf := false
    fsw := false
    ctx := 0
    rsp := none
    inputs := rest
    resets := s.resets + 1 }

/-- The platform changes what one address of the input buffer space reads as. -/
def State.platformPut (s : State) (addr : Addr) (content : Option Byte) (rest : List Input) : State :=
  { s with mem := s.mem.put addr.toNat content, inputs := rest }

end Sys2Proof.Machine
end

