-- ==== Sys2Proof/Machine/Flags.lean ====
section
/-!
DEFINITION. The status and control bits: the view, the Capability Gate, its cache and the override
(spec/10_state.md R25 to R29; spec/40_gate_and_registers.md R120; spec/43_dispatcher.md R182, R183).
The engine has no arithmetic flag (R25): these three bits are all its flags.
-/

namespace Sys2Proof.Machine

/-- The status view: 29 zero bits, `FSW`, `CAPF`, `CAPV` (R29). -/
def statusView (capv capf fsw : Bool) : Word :=
  0#29 ++ (BitVec.ofBool fsw ++ (BitVec.ofBool capf ++ BitVec.ofBool capv))

/-- The status view of a state (R126). -/
def State.view (s : State) : Word := statusView s.capv s.capf s.fsw

/-- `gate()`: the Capability Gate's predicate, which changes nothing (R120). -/
def gate (s : State) : Bool := s.cfg.hwavail

/-- The gate's answer as the Dispatcher sees it: probed on first use, reused from the cache afterwards (R181, R182). -/
def cachedGate (s : State) : Bool := if s.capv then s.capf else gate s

/-- `STATUS.CAPF <- f; STATUS.CAPV <- 1` (R181). -/
def State.fillCache (s : State) (f : Bool) : State := { s with capf := f, capv := true }

/-- The Hardware Path is taken exactly when the gate's answer is true and `FSW` is 0 (R183). -/
def takesHardware (s : State) : Bool := cachedGate s && !s.fsw

end Sys2Proof.Machine
end

