-- ==== Sys2Proof/WellFormed.lean ====
section
/-!
DEFINITION. Which commands a host may write down (spec/30_encoding.md R103, R104).
A value of `Instr` is well formed by its type: each operand has exactly the width the packet gives it, and "every 32-bit
value is legal" (R123), every address and every length (spec/60_exceptions.md R220).
What can be ill formed is the assembler's line, whose operands are plain numbers: "the assembler rejects an operand that
does not fit the width shown; it never truncates silently" (R103).
-/

namespace Sys2Proof

/-- One command of the assembler's syntax with its operands as numbers (R103). -/
inductive Asm where
  | rdacc
  | ldacc (crc : Nat)
  | rdstat
  | wrctl (v : Nat)
  | probe
  | fb8 (d : Nat)
  | fb16 (d : Nat)
  | fb64 (d : Nat)
  | tbl8 (d : Nat)
  | sb8 (d : Nat)
  | cksum (crc addr len : Nat)
  | hwsum (crc addr len : Nat)
  | swsum (crc addr len : Nat)
  deriving DecidableEq, Repr

/-- The pseudo-instructions (R104). -/
inductive Pseudo where
  | clracc
  | fswon
  | fswoff
  /-- `SB8 w0, w1`, the two words of a group given separately. -/
  | sb8Words (w0 w1 : Nat)
  deriving DecidableEq, Repr

/-- One line of the assembler's syntax that is not blank. -/
inductive AsmLine where
  | command (a : Asm)
  | pseudo (p : Pseudo)
  deriving DecidableEq, Repr

/-- `v` fits an operand of `w` bits. -/
def fits (w v : Nat) : Bool := decide (v < 2 ^ w)

/-- The three operands of a buffer command fit 32, 64 and 64 bits (R91). -/
def fitsBuffer (crc addr len : Nat) : Bool := fits 32 crc && fits 64 addr && fits 64 len

/-- Every operand fits the width the table of R103 shows. -/
def asmWellFormed : Asm → Bool
  | .rdacc => true
  | .ldacc crc => fits 32 crc
  | .rdstat => true
  | .wrctl v => fits 1 v
  | .probe => true
  | .fb8 d => fits 8 d
  | .fb16 d => fits 16 d
  | .fb64 d => fits 64 d
  | .tbl8 d => fits 8 d
  | .sb8 d => fits 64 d
  | .cksum crc addr len => fitsBuffer crc addr len
  | .hwsum crc addr len => fitsBuffer crc addr len
  | .swsum crc addr len => fitsBuffer crc addr len

/-- Each word of `SB8 w0, w1` fits 32 bits (R104). -/
def pseudoWellFormed : Pseudo → Bool
  | .clracc => true
  | .fswon => true
  | .fswoff => true
  | .sb8Words w0 w1 => fits 32 w0 && fits 32 w1

/-- A line the assembler takes (R103, R104). -/
def lineWellFormed : AsmLine → Bool
  | .command a => asmWellFormed a
  | .pseudo p => pseudoWellFormed p

end Sys2Proof
end

