-- ==== Sys2Proof/Decode.lean ====
section
/-!
DEFINITION. The command packet, the decoder and the encoder (spec/30_encoding.md R91 to R102).
The packet as bytes is 21 bytes, low byte first; as a number bit 0 is the low bit of byte 0 (R91).
-/

namespace Sys2Proof

/-- The unsigned value of a byte sequence, the first byte the least significant (R91, spec/20_memory.md R64). -/
def leValue : List Byte → Nat
  | [] => 0
  | b :: bs => b.toNat + 256 * leValue bs

/-- Byte `j` of a bit vector, byte 0 the least significant: bits `8j+7:8j` (R10, R91). -/
def byteAt {w : Nat} (v : BitVec w) (j : Nat) : Byte := v.extractLsb' (8 * j) 8

/-! ### The packet (R91) -/

/-- `cmd.op`, bits 7:0. -/
def packetOp (p : Packet) : Byte := p.extractLsb' 0 8

/-- `cmd.crc`, bits 39:8. -/
def packetCrc (p : Packet) : Word := p.extractLsb' 8 32

/-- `cmd.arg`, bits 103:40. -/
def packetArg (p : Packet) : BitVec 64 := p.extractLsb' 40 64

/-- `cmd.len`, bits 167:104. -/
def packetLen (p : Packet) : Len := p.extractLsb' 104 64

/-- The packet with the four given fields, `len` at the top (R91, R105). -/
def packetOf (op : Byte) (crc : Word) (arg : BitVec 64) (len : Len) : Packet := len ++ arg ++ crc ++ op

/-- The 21 bytes of a packet, low byte first (R91). -/
def packetBytes (p : Packet) : List Byte := (List.range 21).map (byteAt p)

/-! ### The opcode byte (R95) -/

/-- `cls`, bits 7:6 of the opcode: system, feedback, table, buffer. -/
def opClass (op : Byte) : BitVec 2 := op.extractLsb' 6 2

/-- `zero`, bits 5:3 of the opcode: not `000` is a reserved encoding (R100). -/
def opZero (op : Byte) : BitVec 3 := op.extractLsb' 3 3

/-- `fn`, bits 2:0 of the opcode. -/
def opFn (op : Byte) : BitVec 3 := op.extractLsb' 0 3

/-! ### The decoder -/

/-- Why the decoder gives no command. -/
inductive Reject where
  /-- The byte sequence is not the 21 bytes of a packet: the length of a command is always 168 bits (R99). -/
  | wrongLength (bytes : Nat)
  /-- The opcode is none of the 13 defined values (R100). -/
  | reservedCommand (op : Byte)
  deriving DecidableEq, Repr

/-- The command of class `00` with function `fn` (R95). -/
def decodeSystem (p : Packet) : Option Instr :=
  match (opFn (packetOp p)).toNat with
  | 0 => some .rdacc
  | 1 => some (.ldacc (packetCrc p))
  | 2 => some .rdstat
  | 3 => some (.wrctl ((packetArg p).getLsbD 0))
  | 4 => some .probe
  | _ => none

/-- The command of class `01` with function `fn`; `fn` = 2 would be the 4-byte step that is reserved (R95). -/
def decodeFeedback (p : Packet) : Option Instr :=
  match (opFn (packetOp p)).toNat with
  | 0 => some (.fb8 ((packetArg p).extractLsb' 0 8))
  | 1 => some (.fb16 ((packetArg p).extractLsb' 0 16))
  | 3 => some (.fb64 (packetArg p))
  | _ => none

/-- The command of class `10` with function `fn` (R95). -/
def decodeTable (p : Packet) : Option Instr :=
  match (opFn (packetOp p)).toNat with
  | 0 => some (.tbl8 ((packetArg p).extractLsb' 0 8))
  | 3 => some (.sb8 ((packetArg p).extractLsb' 0 32) ((packetArg p).extractLsb' 32 32))
  | _ => none

/-- The command of class `11` with function `fn` (R95). -/
def decodeBuffer (p : Packet) : Option Instr :=
  match (opFn (packetOp p)).toNat with
  | 0 => some (.cksum (packetCrc p) (packetArg p) (packetLen p))
  | 1 => some (.hwsum (packetCrc p) (packetArg p) (packetLen p))
  | 2 => some (.swsum (packetCrc p) (packetArg p) (packetLen p))
  | _ => none

/-- The command a packet's opcode selects: the field `zero` is `000`, and the class gives the format (R93, R95). -/
def decodeFields (p : Packet) : Option Instr :=
  if opZero (packetOp p) = 0#3 then
    match (opClass (packetOp p)).toNat with
    | 0 => decodeSystem p
    | 1 => decodeFeedback p
    | 2 => decodeTable p
    | _ => decodeBuffer p
  else none

/-- Decoding a packet (R99): the command, or the reserved opcode by name (R100). -/
def decodePacket (p : Packet) : Except Reject Instr :=
  match decodeFields p with
  | some i => .ok i
  | none => .error (.reservedCommand (packetOp p))

/-- Decoding any byte sequence: 21 bytes are a packet, low byte first; any other number of bytes is none (R91, R99, R102). -/
def decode (bytes : List Byte) : Except Reject Instr :=
  if bytes.length = 21 then decodePacket (BitVec.ofNat 168 (leValue bytes)) else .error (.wrongLength bytes.length)

/-! ### The encoder -/

/-- The opcode byte of a command (R92). -/
def opcodeOf : Instr → Byte
  | .rdacc => 0x00#8
  | .ldacc _ => 0x01#8
  | .rdstat => 0x02#8
  | .wrctl _ => 0x03#8
  | .probe => 0x04#8
  | .fb8 _ => 0x40#8
  | .fb16 _ => 0x41#8
  | .fb64 _ => 0x43#8
  | .tbl8 _ => 0x80#8
  | .sb8 _ _ => 0x83#8
  | .cksum _ _ _ => 0xC0#8
  | .hwsum _ _ _ => 0xC1#8
  | .swsum _ _ _ => 0xC2#8

/-- The `crc` field of a command's canonical packet; zero where the format ignores it (R93, R98). -/
def crcOf : Instr → Word
  | .ldacc crc => crc
  | .cksum crc _ _ => crc
  | .hwsum crc _ _ => crc
  | .swsum crc _ _ => crc
  | .rdacc => 0#32
  | .rdstat => 0#32
  | .wrctl _ => 0#32
  | .probe => 0#32
  | .fb8 _ => 0#32
  | .fb16 _ => 0#32
  | .fb64 _ => 0#32
  | .tbl8 _ => 0#32
  | .sb8 _ _ => 0#32

/-- The `arg` field of a command's canonical packet; ignored bits are zero (R93, R96, R98). -/
def argOf : Instr → BitVec 64
  | .wrctl fsw => (BitVec.ofBool fsw).setWidth 64
  | .fb8 d => d.setWidth 64
  | .fb16 d => d.setWidth 64
  | .fb64 d => d
  | .tbl8 d => d.setWidth 64
  | .sb8 w0 w1 => w1 ++ w0
  | .cksum _ addr _ => addr
  | .hwsum _ addr _ => addr
  | .swsum _ addr _ => addr
  | .rdacc => 0#64
  | .ldacc _ => 0#64
  | .rdstat => 0#64
  | .probe => 0#64

/-- The `len` field of a command's canonical packet; zero outside format B (R93, R98). -/
def lenOf : Instr → Len
  | .cksum _ _ len => len
  | .hwsum _ _ len => len
  | .swsum _ _ len => len
  | .rdacc => 0#64
  | .ldacc _ => 0#64
  | .rdstat => 0#64
  | .wrctl _ => 0#64
  | .probe => 0#64
  | .fb8 _ => 0#64
  | .fb16 _ => 0#64
  | .fb64 _ => 0#64
  | .tbl8 _ => 0#64
  | .sb8 _ _ => 0#64

/-- The canonical packet of a command: zeros in every ignored bit (R98). -/
def encodePacket (i : Instr) : Packet := packetOf (opcodeOf i) (crcOf i) (argOf i) (lenOf i)

/-- The 21 bytes of a command's canonical packet (R91, R98). -/
def encode (i : Instr) : List Byte := packetBytes (encodePacket i)

/-! ### The bits a command's format uses (R93) -/

/-- The bits of a packet that a format looks at: the opcode, and of `crc`, `arg`, `len` what the table of R93 says. -/
def usedBits (crc : Bool) (argBits : Nat) (len : Bool) : Packet :=
  packetOf (BitVec.allOnes 8) (if crc then BitVec.allOnes 32 else 0#32) (BitVec.ofNat 64 (2 ^ argBits - 1))
    (if len then BitVec.allOnes 64 else 0#64)

/-- The bits of the packet that a command uses; every other bit is ignored (R93, R98). -/
def usedMask : Instr → Packet
  | .rdacc => usedBits false 0 false
  | .ldacc _ => usedBits true 0 false
  | .rdstat => usedBits false 0 false
  | .wrctl _ => usedBits false 1 false
  | .probe => usedBits false 0 false
  | .fb8 _ => usedBits false 8 false
  | .fb16 _ => usedBits false 16 false
  | .fb64 _ => usedBits false 64 false
  | .tbl8 _ => usedBits false 8 false
  | .sb8 _ _ => usedBits false 64 false
  | .cksum _ _ _ => usedBits true 64 true
  | .hwsum _ _ _ => usedBits true 64 true
  | .swsum _ _ _ => usedBits true 64 true

/-! ### The host's view of the opcode table -/

/-- The packet whose low `nbits` bits are those of `w`, every bit above zero.
Packet bits are numbered as spec/opcode_table.json numbers them: bit 0 is the low bit of the first byte (R91). -/
def tablePacket (nbits w : Nat) : Packet := BitVec.ofNat 168 (w % 2 ^ nbits)

/-- What the decoder reads from the packet whose bits are `w`: the packet's bytes as the host sends them, decoded. -/
def decodeTableWord (nbits w : Nat) : Option Instr :=
  match decode (packetBytes (tablePacket nbits w)) with
  | .ok i => some i
  | .error _ => none

end Sys2Proof
end

