-- ==== Sys2Proof/Machine/Crc.lean ====
section
/-!
DEFINITION. The arithmetic of the engine, pure functions of their arguments and the constant table ROM
(spec/00_scope.md R14; spec/41_hardware_path.md R140; spec/42_software_path.md R161, R163).
No initial and no final complement is applied anywhere (R17).
-/

namespace Sys2Proof.Machine

/-! ### The feedback network (R14, R140) -/

/-- `bitstep(c, d)`: one input bit; bit 0 of the accumulator leaves first (R3, R14). -/
def bitstep (c : Word) (d : Bool) : Word :=
  (c >>> 1) ^^^ (if (c.getLsbD 0 ^^ d) then Config.polyReflected else 0#32)

/-- The accumulator after the first `n` bits of `v` have been fed, in the order `v[0], v[1], ...` (R14). -/
def feedBits {w : Nat} (c : Word) (v : BitVec w) : Nat → Word
  | 0 => c
  | n + 1 => bitstep (feedBits c v n) (v.getLsbD n)

/-- `fb_8(c, v)`: the 8-bit accumulation step (R14, R140). -/
def fb8 (c : Word) (v : BitVec 8) : Word := feedBits c v 8

/-- `fb_16(c, v)`: the 16-bit accumulation step (R14, R140). -/
def fb16 (c : Word) (v : BitVec 16) : Word := feedBits c v 16

/-- `fb_64(c, v)`: the 64-bit accumulation step; the result stays 32 bits (R14, R140). -/
def fb64 (c : Word) (v : BitVec 64) : Word := feedBits c v 64

/-! ### The table core (R161, R163) -/

/-- `bytestep(c, b)`: the document's single-byte table step, one read of table 0; the shift is logical (R14, R161). -/
def bytestep (c : Word) (b : Byte) : Word := rom 0 (byteAt (c ^^^ b.setWidth 32) 0) ^^^ (c >>> 8)

/-- `crc_update(c, s)`: the single-byte update over the bytes in order, a left fold (R14). -/
def crcUpdate : Word → List Byte → Word
  | c, [] => c
  | c, b :: s => crcUpdate (bytestep c b) s

/-- `sb8(c, w0, w1)`: the slicing-by-8 step, eight independent table reads, one from each table (R14, R163, R165). -/
def sb8 (c w0 w1 : Word) : Word :=
  rom 7 (byteAt (c ^^^ w0) 0) ^^^ rom 6 (byteAt (c ^^^ w0) 1) ^^^ rom 5 (byteAt (c ^^^ w0) 2)
    ^^^ rom 4 (byteAt (c ^^^ w0) 3) ^^^ rom 3 (byteAt w1 0) ^^^ rom 2 (byteAt w1 1) ^^^ rom 1 (byteAt w1 2)
    ^^^ rom 0 (byteAt w1 3)

end Sys2Proof.Machine
end

