-- ==== Sys2Proof/Machine/Operands.lean ====
section
/-!
DEFINITION. The operand forms: the little-endian read of the input buffer space (spec/20_memory.md R64, R73) and the
steps a buffer command is cut into, each with its operand in memory (spec/41_hardware_path.md R146,
spec/42_software_path.md R166).
The operand of a step command is a field of the packet and is taken by the decoder (spec/30_encoding.md R96).
-/

namespace Sys2Proof.Machine

/-- `MemRead(addr, n)` for `n` = `w / 8` bytes: the value with the byte at the lowest address least significant, or
`BufferFault(addr)` if one of the bytes is not readable (R64, R73). No alignment is required (R66). -/
def memRead (w : Nat) (m : Memory) (addr : Nat) : Except Fault (BitVec w) :=
  match m.bytes addr (w / 8) with
  | some bs => .ok (BitVec.ofNat w (leValue bs))
  | none => .error (.bufferFault addr)

/-- One application of a step function to the running accumulator of a buffer command, with the address of its operand
(spec/00_scope.md R19). -/
inductive ChunkStep where
  /-- `c = fb_64(c, MemRead(p, 8))`. -/
  | feed64 (p : Nat)
  /-- `c = fb_16(c, MemRead(p, 2))`. -/
  | feed16 (p : Nat)
  /-- `c = fb_8(c, MemRead(p, 1))`. -/
  | feed8 (p : Nat)
  /-- `c = bytestep(c, MemRead(p, 1))`. -/
  | table8 (p : Nat)
  /-- `c = sb8(c, MemRead(p, 4), MemRead(p + 4, 4))`. -/
  | slice8 (p : Nat)
  deriving DecidableEq, Repr

/-- The running accumulator after one step. -/
def runStep (m : Memory) (c : Word) : ChunkStep → Except Fault Word
  | .feed64 p => (memRead 64 m p).bind fun v => .ok (fb64 c v)
  | .feed16 p => (memRead 16 m p).bind fun v => .ok (fb16 c v)
  | .feed8 p => (memRead 8 m p).bind fun v => .ok (fb8 c v)
  | .table8 p => (memRead 8 m p).bind fun v => .ok (bytestep c v)
  | .slice8 p => (memRead 32 m p).bind fun w0 => (memRead 32 m (p + 4)).bind fun w1 => .ok (sb8 c w0 w1)

/-- The steps in order, each step's output the next step's input (R76, spec/41_hardware_path.md R147). -/
def runSteps (m : Memory) : Word → List ChunkStep → Except Fault Word
  | c, [] => .ok c
  | c, x :: xs => (runStep m c x).bind fun c' => runSteps m c' xs

/-- The reads a step issues, in order: address and number of bytes (R69). -/
def stepReads : ChunkStep → List (Nat × Nat)
  | .feed64 p => [(p, 8)]
  | .feed16 p => [(p, 2)]
  | .feed8 p => [(p, 1)]
  | .table8 p => [(p, 1)]
  | .slice8 p => [(p, 4), (p + 4, 4)]

/-- `repeat n: body at p; p = p + size`. -/
def strided (size : Nat) (body : Nat → List ChunkStep) (p : Nat) : Nat → List ChunkStep
  | 0 => []
  | n + 1 => body p ++ strided size body (p + size) n

end Sys2Proof.Machine
end

