-- ==== Sys2Proof/Machine/HardwarePath.lean ====
section
/-!
DEFINITION. The Hardware Path: the feedback steps `FB8`, `FB16`, `FB64` and the buffer command `HWSUM`
(spec/41_hardware_path.md).
-/

namespace Sys2Proof.Machine

/-- `FB8 d`: `ACC <- fb_8(ACC, d)` (R143). -/
def execFb8 (d : BitVec 8) (s : State) : Host.Outcome State Fault Refusal :=
  whenAvailable s (updateAcc s fun a => fb8 a d)

/-- `FB16 d`: `ACC <- fb_16(ACC, d)` (R144). -/
def execFb16 (d : BitVec 16) (s : State) : Host.Outcome State Fault Refusal :=
  whenAvailable s (updateAcc s fun a => fb16 a d)

/-- `FB64 d`: `ACC <- fb_64(ACC, d)` (R145). -/
def execFb64 (d : BitVec 64) (s : State) : Host.Outcome State Fault Refusal :=
  whenAvailable s (updateAcc s fun a => fb64 a d)

/-- One complete 32-byte block: four consecutive 8-byte steps (R146 step 1). -/
def hwBlock (p : Nat) : List ChunkStep := [.feed64 p, .feed64 (p + 8), .feed64 (p + 16), .feed64 (p + 24)]

/-- The steps of the Hardware Path over `len` bytes at `p`: 32-byte blocks, then 8-byte blocks of the less than 32 left,
then 2-byte blocks of the less than 8 left, then the last single byte (R146, R147). -/
def hwSteps (p len : Nat) : List ChunkStep :=
  let n32 := len / 32
  let r32 := len % 32
  let n8 := r32 / 8
  let r8 := r32 % 8
  let n2 := r8 / 2
  let r2 := r8 % 2
  let p8 := p + 32 * n32
  let p2 := p8 + 8 * n8
  let p1 := p2 + 2 * n2
  strided 32 hwBlock p n32 ++ strided 8 (fun q => [.feed64 q]) p8 n8 ++ strided 2 (fun q => [.feed16 q]) p2 n2
    ++ (if r2 = 1 then [.feed8 p1] else [])

/-- `hwsum(c, a, n)` (R146). -/
def hwsum (m : Memory) (c : Word) (p len : Nat) : Except Fault Word := runSteps m c (hwSteps p len)

/-- `HWSUM crc, addr, len`: `HwUnavailable` first, then `BufferFault`, then `ACC <- hwsum(crc, addr, len)`
(R146, spec/60_exceptions.md R228). -/
def execHwsum (crc : Word) (addr : Addr) (len : Len) (s : State) : Host.Outcome State Fault Refusal :=
  whenAvailable s (whenAdmitted s addr len (finishSum s (hwsum s.mem crc addr.toNat len.toNat)))

end Sys2Proof.Machine
end

