-- ==== Sys2Proof/Machine/SoftwarePath.lean ====
section
/-!
DEFINITION. The Software Path: the table steps `TBL8`, `SB8` and the buffer command `SWSUM` (spec/42_software_path.md).
None of them depends on `HWAVAIL`.
-/

namespace Sys2Proof.Machine

/-- `TBL8 d`: `ACC <- bytestep(ACC, d)` (R162). -/
def execTbl8 (d : BitVec 8) (s : State) : Host.Outcome State Fault Refusal := updateAcc s fun a => bytestep a d

/-- `SB8 w0, w1`: `ACC <- sb8(ACC, w0, w1)` (R164). -/
def execSb8 (w0 w1 : Word) (s : State) : Host.Outcome State Fault Refusal := updateAcc s fun a => sb8 a w0 w1

/-- The leading alignment bytes: what brings `p` to a 4-byte boundary, capped at the length (R166 phase 1;
spec/20_memory.md R68). -/
def swLead (p len : Nat) : Nat := min ((4 - p % 4) % 4) len

/-- The steps of the Software Path over `len` bytes at `p`: leading alignment bytes, 8-byte groups, trailing bytes
(R166, R167). -/
def swSteps (p len : Nat) : List ChunkStep :=
  let n1 := swLead p len
  let rem := len - n1
  let n2 := rem / 8
  let n3 := rem % 8
  strided 1 (fun q => [.table8 q]) p n1 ++ strided 8 (fun q => [.slice8 q]) (p + n1) n2
    ++ strided 1 (fun q => [.table8 q]) (p + n1 + 8 * n2) n3

/-- `swsum(c, a, n)` (R166). -/
def swsum (m : Memory) (c : Word) (p len : Nat) : Except Fault Word := runSteps m c (swSteps p len)

/-- `SWSUM crc, addr, len`: `BufferFault`, or `ACC <- swsum(crc, addr, len)` (R166). -/
def execSwsum (crc : Word) (addr : Addr) (len : Len) (s : State) : Host.Outcome State Fault Refusal :=
  whenAdmitted s addr len (finishSum s (swsum s.mem crc addr.toNat len.toNat))

end Sys2Proof.Machine
end

