-- ==== Sys2Proof/Machine/Checksum.lean ====
section
/-!
DEFINITION. The Dispatcher: the command `CKSUM` (spec/43_dispatcher.md).
-/

namespace Sys2Proof.Machine

/-- The checksum by whichever path the gate and the override select (R181, R183). -/
def selectedSum (s : State) (crc : Word) (p len : Nat) : Except Fault Word :=
  if takesHardware s then hwsum s.mem crc p len else swsum s.mem crc p len

/-- `CKSUM crc, addr, len`: `BufferFault` before anything is written, the cache included; else the cache is filled with
the gate's answer and `ACC <- c; rsp <- c` (R181, R182). -/
def execCksum (crc : Word) (addr : Addr) (len : Len) (s : State) : Host.Outcome State Fault Refusal :=
  whenAdmitted s addr len
    (finishSum (s.fillCache (cachedGate s)) (selectedSum s crc addr.toNat len.toNat))

end Sys2Proof.Machine
end

