-- ==== Sys2Proof/Machine/GateAndRegisters.lean ====
section
/-!
DEFINITION. The five commands of class `00`: `RDACC`, `LDACC`, `RDSTAT`, `WRCTL`, `PROBE` (spec/40_gate_and_registers.md).
-/

namespace Sys2Proof.Machine

/-- `RDACC`: `rsp <- ACC` (R122). -/
def execRdacc (s : State) : Host.Outcome State Fault Refusal := respondAcc s

/-- `LDACC crc`: `ACC <- cmd.crc; rsp <- cmd.crc` (R123). -/
def execLdacc (crc : Word) (s : State) : Host.Outcome State Fault Refusal := updateAcc s fun _ => crc

/-- `RDSTAT`: `rsp <-` the status view (R126). -/
def execRdstat (s : State) : Host.Outcome State Fault Refusal := respond s s.view

/-- `WRCTL v`: `CTRL.FSW <- cmd.arg[0]`, `rsp <-` the view after the write (R127). -/
def execWrctl (fsw : Bool) (s : State) : Host.Outcome State Fault Refusal :=
  respond { s with fsw := fsw } (statusView s.capv s.capf fsw)

/-- `PROBE`: `rsp <- zext_32(gate())`, nothing cached (R121, R125). -/
def execProbe (s : State) : Host.Outcome State Fault Refusal := respond s ((BitVec.ofBool (gate s)).setWidth 32)

end Sys2Proof.Machine
end

