-- ==== Sys2Proof/Machine/Dispatch.lean ====
section
/-!
DEFINITION. One arm for each command of the opcode table (spec/30_encoding.md R92).
-/

namespace Sys2Proof.Machine

/-- The effect of one command on the engine, as one atomic transition (spec/30_encoding.md R90). -/
def exec (i : Instr) (s : State) : Host.Outcome State Fault Refusal :=
  match i with
  | .rdacc => Sys2Proof.Machine.execRdacc s
  | .ldacc crc => Sys2Proof.Machine.execLdacc crc s
  | .rdstat => Sys2Proof.Machine.execRdstat s
  | .wrctl fsw => Sys2Proof.Machine.execWrctl fsw s
  | .probe => Sys2Proof.Machine.execProbe s
  | .fb8 d => Sys2Proof.Machine.execFb8 d s
  | .fb16 d => Sys2Proof.Machine.execFb16 d s
  | .fb64 d => Sys2Proof.Machine.execFb64 d s
  | .tbl8 d => Sys2Proof.Machine.execTbl8 d s
  | .sb8 w0 w1 => Sys2Proof.Machine.execSb8 w0 w1 s
  | .cksum crc addr len => Sys2Proof.Machine.execCksum crc addr len s
  | .hwsum crc addr len => Sys2Proof.Machine.execHwsum crc addr len s
  | .swsum crc addr len => Sys2Proof.Machine.execSwsum crc addr len s

end Sys2Proof.Machine
end

