-- ==== Sys2Proof/Machine/Step.lean ====
section
/-!
DEFINITION. One step of the engine: the next event of the outside, or nothing (spec/30_encoding.md R90).
The engine has no program counter and fetches nothing: the host presents its commands (spec/00_scope.md R2).
-/

namespace Sys2Proof.Machine

/-- One step. With nothing presented the engine stays as it is (notes/assumptions/5.md).
A command of a context the engine has is decoded and executed; a reserved opcode is refused before any operand is looked
at (spec/60_exceptions.md R223, R228). -/
def step (s : State) : Host.Outcome State Fault Refusal :=
  match s.inputs with
  | [] => .next s
  | .reset :: rest => .next (s.takeReset rest)
  | .platform addr content :: rest => .next (s.platformPut addr content rest)
  | .command c p :: rest =>
    if c < s.accs.length then
      match decodePacket p with
      | .ok i => exec i (s.accept c rest)
      | .error _ => .refused (.reservedCommand (packetOp p))
    else .refused (.noContext c)

/-- The state in which the next step takes the command whose packet bits are `w`: the packet stands first at the command
port, from the context whose command was last at the engine. -/
def State.withFetchWord (s : State) (nbits w : Nat) : State :=
  { s with inputs := .command s.ctx (tablePacket nbits w) :: s.inputs }

end Sys2Proof.Machine
end

