-- ==== Sys2Proof/Machine/Assembler.lean ====
section
/-!
DEFINITION. The assembler's syntax and the pseudo-instructions (spec/30_encoding.md R103, R104): notation of the spec, which
the engine knows nothing of.
-/

namespace Sys2Proof.Machine

/-! ### From a line to a command -/

/-- A pseudo-instruction's expansion (R104). -/
def expandPseudo : Pseudo → Asm
  | .clracc => .ldacc 0
  | .fswon => .wrctl 1
  | .fswoff => .wrctl 0
  | .sb8Words w0 w1 => .sb8 ((w1 <<< 32) ||| w0)

/-- The packet of a command: the fields the table of R103 sets, all others zero. -/
def asmPacket : Asm → Packet
  | .rdacc => packetOf 0x00#8 0#32 0#64 0#64
  | .ldacc crc => packetOf 0x01#8 (BitVec.ofNat 32 crc) 0#64 0#64
  | .rdstat => packetOf 0x02#8 0#32 0#64 0#64
  | .wrctl v => packetOf 0x03#8 0#32 (BitVec.ofNat 64 v) 0#64
  | .probe => packetOf 0x04#8 0#32 0#64 0#64
  | .fb8 d => packetOf 0x40#8 0#32 (BitVec.ofNat 64 d) 0#64
  | .fb16 d => packetOf 0x41#8 0#32 (BitVec.ofNat 64 d) 0#64
  | .fb64 d => packetOf 0x43#8 0#32 (BitVec.ofNat 64 d) 0#64
  | .tbl8 d => packetOf 0x80#8 0#32 (BitVec.ofNat 64 d) 0#64
  | .sb8 d => packetOf 0x83#8 0#32 (BitVec.ofNat 64 d) 0#64
  | .cksum crc addr len => packetOf 0xC0#8 (BitVec.ofNat 32 crc) (BitVec.ofNat 64 addr) (BitVec.ofNat 64 len)
  | .hwsum crc addr len => packetOf 0xC1#8 (BitVec.ofNat 32 crc) (BitVec.ofNat 64 addr) (BitVec.ofNat 64 len)
  | .swsum crc addr len => packetOf 0xC2#8 (BitVec.ofNat 32 crc) (BitVec.ofNat 64 addr) (BitVec.ofNat 64 len)

/-- The packet of a line, or nothing where an operand does not fit: the assembler never truncates silently (R103). -/
def assemble (l : AsmLine) : Option Packet :=
  if lineWellFormed l then
    match l with
    | .command a => some (asmPacket a)
    | .pseudo p => some (asmPacket (expandPseudo p))
  else none

/-! ### From text to a line -/

/-- Everything before the `;` that starts a comment. -/
def withoutComment : List Char → List Char
  | [] => []
  | c :: cs => if c = ';' then [] else c :: withoutComment cs

/-- A character that separates a mnemonic from its operands. -/
def isBlank (c : Char) : Bool := c = ' ' || c = '\t' || c = '\r' || c = '\n'

/-- The text without blanks at either end. -/
def trimBlanks (cs : List Char) : List Char :=
  ((cs.dropWhile isBlank).reverse.dropWhile isBlank).reverse

/-- The parts of a text between commas. -/
def splitCommas : List Char → List (List Char)
  | [] => [[]]
  | c :: cs =>
    match splitCommas cs with
    | [] => [[]]
    | p :: ps => if c = ',' then [] :: p :: ps else (c :: p) :: ps

/-- The value of a digit below `base`. -/
def digit? (base : Nat) (c : Char) : Option Nat :=
  let v :=
    if '0' ≤ c ∧ c ≤ '9' then some (c.toNat - 48)
    else if 'a' ≤ c ∧ c ≤ 'f' then some (c.toNat - 87)
    else if 'A' ≤ c ∧ c ≤ 'F' then some (c.toNat - 55)
    else none
  v.filter (· < base)

/-- The value of a digit sequence that follows the digits of value `acc`. -/
def digits? (base : Nat) (acc : Nat) : List Char → Option Nat
  | [] => some acc
  | c :: cs =>
    match digit? base c with
    | some d => digits? base (acc * base + d) cs
    | none => none

/-- A number in C notation: `0x` for hexadecimal, plain decimal otherwise (R103). -/
def number? (cs : List Char) : Option Nat :=
  match cs with
  | [] => none
  | '0' :: 'x' :: [] => none
  | '0' :: 'x' :: h => digits? 16 0 h
  | _ => digits? 10 0 cs

/-- The operands of a line, separated by commas; no text is no operand. -/
def operands? (cs : List Char) : Option (List Nat) :=
  match trimBlanks cs with
  | [] => some []
  | t => (splitCommas t).mapM fun p => number? (trimBlanks p)

/-- The line a mnemonic and its operands make (R103, R104). -/
def asmOf? (mnemonic : List Char) (ops : List Nat) : Option AsmLine :=
  match ops with
  | [] =>
    if mnemonic = "RDACC".toList then some (.command .rdacc)
    else if mnemonic = "RDSTAT".toList then some (.command .rdstat)
    else if mnemonic = "PROBE".toList then some (.command .probe)
    else if mnemonic = "CLRACC".toList then some (.pseudo .clracc)
    else if mnemonic = "FSWON".toList then some (.pseudo .fswon)
    else if mnemonic = "FSWOFF".toList then some (.pseudo .fswoff)
    else none
  | [v] =>
    if mnemonic = "LDACC".toList then some (.command (.ldacc v))
    else if mnemonic = "WRCTL".toList then some (.command (.wrctl v))
    else if mnemonic = "FB8".toList then some (.command (.fb8 v))
    else if mnemonic = "FB16".toList then some (.command (.fb16 v))
    else if mnemonic = "FB64".toList then some (.command (.fb64 v))
    else if mnemonic = "TBL8".toList then some (.command (.tbl8 v))
    else if mnemonic = "SB8".toList then some (.command (.sb8 v))
    else none
  | [v, w] => if mnemonic = "SB8".toList then some (.pseudo (.sb8Words v w)) else none
  | [v, w, x] =>
    if mnemonic = "CKSUM".toList then some (.command (.cksum v w x))
    else if mnemonic = "HWSUM".toList then some (.command (.hwsum v w x))
    else if mnemonic = "SWSUM".toList then some (.command (.swsum v w x))
    else none
  | _ => none

/-- One line of text: `some none` for a blank or comment line, `none` for a line that is not of the syntax (R103). -/
def parseLine? (line : String) : Option (Option AsmLine) :=
  match trimBlanks (withoutComment line.toList) with
  | [] => some none
  | t =>
    let mnemonic := t.takeWhile fun c => !isBlank c
    match operands? (t.drop mnemonic.length) with
    | some ops => (asmOf? mnemonic ops).map some
    | none => none

/-- One line of text to the packets it stands for: none for a blank or comment line, one for a command. -/
def assembleText? (line : String) : Option (List Packet) :=
  match parseLine? line with
  | some (some l) => (assemble l).map fun p => [p]
  | some none => some []
  | none => none

/-- A program, one command per line, to its packets in order; nothing if a line is not taken (R103). -/
def assembleProgram? (lines : List String) : Option (List Packet) :=
  (lines.mapM assembleText?).map List.flatten

end Sys2Proof.Machine
end

