-- ==== Sys2Proof/Safety.lean ====
section
/-!
DEFINITION. The terms in which claims about the engine are made: the invariant of a run, an admitted buffer, the bytes of a
buffer, the commands each condition applies to, and when a command completes.
-/

namespace Sys2Proof.Machine

/-- What holds of the engine's state from reset on: memory in canonical form; at least one context and one `ACC` for each
(spec/60_exceptions.md R236, spec/00_scope.md R8); the context at the engine exists; and the two bits of the capability
flag are in one of its stages, unset or fixed at `HWAVAIL` (spec/10_state.md R26). -/
structure State.Inv (s : State) : Prop where
  memory : s.mem.wf
  contexts : 1 ≤ s.cfg.nctx
  accumulators : s.accs.length = s.cfg.nctx
  requester : s.ctx < s.cfg.nctx
  unset : s.capv = false → s.capf = false
  fixed : s.capv = true → s.capf = s.cfg.hwavail

/-- A buffer command over `n` bytes at `a` is admitted (spec/20_memory.md R74). -/
def Admitted (m : Memory) (a n : Nat) : Prop :=
  n = 0 ∨ (a + n ≤ 2 ^ 64 ∧ ∀ x, a ≤ x → x < a + n → (m.byte? x).isSome)

/-- The buffer at `a` is readable and its bytes are `bs`, in address order (spec/00_scope.md R15). -/
def BufferHolds (m : Memory) (a : Nat) (bs : List Byte) : Prop :=
  ∀ j (h : j < bs.length), m.byte? (a + j) = some bs[j]

/-- The commands that use the feedback network by themselves (spec/41_hardware_path.md R141). -/
def needsHardware : Instr → Bool
  | .fb8 _ => true
  | .fb16 _ => true
  | .fb64 _ => true
  | .hwsum _ _ _ => true
  | .rdacc => false
  | .ldacc _ => false
  | .rdstat => false
  | .wrctl _ => false
  | .probe => false
  | .tbl8 _ => false
  | .sb8 _ _ => false
  | .cksum _ _ _ => false
  | .swsum _ _ _ => false

/-- The buffer of a buffer command, address and length; the other commands read no memory (spec/20_memory.md R60). -/
def bufferOf : Instr → Nat × Nat
  | .cksum _ addr len => (addr.toNat, len.toNat)
  | .hwsum _ addr len => (addr.toNat, len.toNat)
  | .swsum _ addr len => (addr.toNat, len.toNat)
  | .rdacc => (0, 0)
  | .ldacc _ => (0, 0)
  | .rdstat => (0, 0)
  | .wrctl _ => (0, 0)
  | .probe => (0, 0)
  | .fb8 _ => (0, 0)
  | .fb16 _ => (0, 0)
  | .fb64 _ => (0, 0)
  | .tbl8 _ => (0, 0)
  | .sb8 _ _ => (0, 0)

/-- Nothing stands in the way of the command: the feedback network is there if it needs it, and its buffer, if it has one,
is admitted (spec/60_exceptions.md R226). -/
def CanComplete (i : Instr) (s : State) : Prop :=
  (needsHardware i = true → s.cfg.hwavail = true) ∧ Admitted s.mem (bufferOf i).1 (bufferOf i).2

/-- The event is a command of a context other than `k`. -/
def commandOfOther (k : Nat) : Input → Bool
  | .command c _ => c != k
  | .reset => false
  | .platform _ _ => false

/-- `repeat n: x = (x >> 1) ^ (P if x[0] = 1 else 0)`, the loop in which spec/00_scope.md R14, spec/11_table_rom.md R50 and
spec/41_hardware_path.md R140 write the feedback out. -/
def shiftOut : Nat → Word → Word
  | 0, x => x
  | n + 1, x => shiftOut n ((x >>> 1) ^^^ (if x.getLsbD 0 then Config.polyReflected else 0#32))

/-- The bytes of a 64-bit operand, least significant first (spec/30_encoding.md R96). -/
def bytesOf64 (v : BitVec 64) : List Byte := (List.range 8).map (byteAt v)

/-- The widths in bytes of the reads a list of steps issues, in order (spec/20_memory.md R69). -/
def readWidths (xs : List ChunkStep) : List Nat := (xs.flatMap stepReads).map Prod.snd

/-- The byte addresses a list of steps reads, in order (spec/20_memory.md R70). -/
def readAddresses (xs : List ChunkStep) : List Nat := (xs.flatMap stepReads).flatMap fun r => List.range' r.1 r.2

/-- The 13 opcodes (spec/30_encoding.md R92). -/
def definedOpcodes : List Byte :=
  [0x00#8, 0x01#8, 0x02#8, 0x03#8, 0x04#8, 0x40#8, 0x41#8, 0x43#8, 0x80#8, 0x83#8, 0xC0#8, 0xC1#8, 0xC2#8]

end Sys2Proof.Machine
end

