-- ==== Sys2Proof/Certificates/Slice0/Obligations.lean ====
section
/-!
DEFINITION. The statements about the engine, for the provers. Each says which rule of spec/ it formalises.
-/

open Sys2Proof Sys2Proof.Machine

/-! ### The arithmetic -/

/-- R50, R51: table 0 is the remainder of the byte under the feedback, by which the byte step is the 8-bit feedback step;
each further table is one zero byte more, so that table `k` is the byte followed by `k` zero bytes. -/
def Obligations.RomFollowsGeneratorAndRecurrence : Prop :=
  (∀ i : Byte, rom 0 i = fb8 0#32 i ∧ rom 0 i = shiftOut 8 (i.setWidth 32)) ∧
  (∀ (c : Word) (b : Byte), bytestep c b = fb8 c b) ∧
  (∀ (k : Nat) (h : k + 1 < 8) (i : Byte),
    rom ⟨k + 1, h⟩ i = (rom ⟨k, by omega⟩ i >>> 8) ^^^ rom 0 (byteAt (rom ⟨k, by omega⟩ i) 0) ∧
    rom ⟨k + 1, h⟩ i = bytestep (rom ⟨k, by omega⟩ i) 0#8) ∧
  (∀ (k : Fin 8) (i : Byte), rom k i = crcUpdate 0#32 (i :: List.replicate k.val 0#8))

/-- The laws of the tables (spec/11_table_rom.md section 1, which marks them as derived): entry 0 is zero, each table is
linear over exclusive or, the entry of `0x80` in table 0 is the polynomial, and the entries of one table are distinct. -/
def Obligations.EveryTableIsLinearAndInjective : Prop :=
  (∀ k : Fin 8, rom k 0#8 = 0#32) ∧
  (∀ (k : Fin 8) (a b : Byte), rom k (a ^^^ b) = rom k a ^^^ rom k b) ∧
  rom 0 0x80#8 = 0x82F63B78#32 ∧
  (∀ k : Fin 8, Function.Injective (rom k))

/-- R140: the three widths of the feedback function written out as shifting loops. -/
def Obligations.FeedbackStepsAreTheWrittenOutLoops : Prop :=
  ∀ c : Word,
    (∀ v : BitVec 8, fb8 c v = shiftOut 8 (c ^^^ v.setWidth 32)) ∧
    (∀ v : BitVec 16, fb16 c v = shiftOut 16 (c ^^^ v.setWidth 32)) ∧
    (∀ v : BitVec 64, fb64 c v = shiftOut 32 (shiftOut 32 (c ^^^ v.extractLsb' 0 32) ^^^ v.extractLsb' 32 32))

/-- R142: the feedback steps are the byte step of the Software Path applied to the bytes of the chunk from the least
significant byte upward, and the 64-bit step is the slicing step. -/
def Obligations.FeedbackStepsEqualByteSteps : Prop :=
  ∀ c : Word,
    (∀ v : BitVec 8, fb8 c v = bytestep c v) ∧
    (∀ v : BitVec 16, fb16 c v = bytestep (bytestep c (v.extractLsb' 0 8)) (v.extractLsb' 8 8)) ∧
    (∀ v : BitVec 64, fb64 c v = crcUpdate c (bytesOf64 v) ∧
      fb64 c v = sb8 c (v.extractLsb' 0 32) (v.extractLsb' 32 32))

/-- The laws of the feedback at every width (spec/41_hardware_path.md section 3, which marks them as derived): linear over
exclusive or, zero on zero, data and accumulator interchangeable up to 32 bits, a bijection of the accumulator. -/
def Obligations.FeedbackIsLinearAndBijective : Prop :=
  ∀ w : Nat,
    (∀ (c c' : Word) (v v' : BitVec w),
      feedBits (c ^^^ c') (v ^^^ v') w = feedBits c v w ^^^ feedBits c' v' w) ∧
    feedBits 0#32 (0#w) w = 0#32 ∧
    (w ≤ 32 → ∀ (c : Word) (v : BitVec w), feedBits c v w = feedBits (c ^^^ v.setWidth 32) (0#w) w) ∧
    (∀ v : BitVec w, Function.Bijective fun c : Word => feedBits c v w)

/-- The laws of the table steps (spec/42_software_path.md section 3, which marks them as derived): the byte step and the
slicing step are linear, and the slicing step is eight byte steps. -/
def Obligations.TableStepsAreLinearAndSlicingIsEightBytes : Prop :=
  (∀ (c c' : Word) (b b' : Byte), bytestep (c ^^^ c') (b ^^^ b') = bytestep c b ^^^ bytestep c' b') ∧
  bytestep 0#32 0#8 = 0#32 ∧
  (∀ (c : Word) (b : Byte), bytestep c b = bytestep (c ^^^ b.setWidth 32) 0#8) ∧
  (∀ c w0 w1 : Word, sb8 c w0 w1 =
    crcUpdate c [byteAt w0 0, byteAt w0 1, byteAt w0 2, byteAt w0 3, byteAt w1 0, byteAt w1 1, byteAt w1 2, byteAt w1 3]) ∧
  (∀ c c' w0 w0' w1 w1' : Word, sb8 (c ^^^ c') (w0 ^^^ w0') (w1 ^^^ w1') = sb8 c w0 w1 ^^^ sb8 c' w0' w1')

/-- The two forms of the polynomial are bit reversals of each other (spec/00_scope.md section 2), and the raw checksums of
spec/95_test_vectors.md S1, S1b and spec/00_scope.md section 7: no complement is applied. -/
def Obligations.ChecksumsAreRaw : Prop :=
  Config.polyNormal.reverse = Config.polyReflected ∧
  crcUpdate 0#32 [0x31#8, 0x32#8, 0x33#8, 0x34#8, 0x35#8, 0x36#8, 0x37#8, 0x38#8, 0x39#8] = 0x58E3FA20#32 ∧
  ~~~ crcUpdate 0xFFFFFFFF#32 [0x31#8, 0x32#8, 0x33#8, 0x34#8, 0x35#8, 0x36#8, 0x37#8, 0x38#8, 0x39#8] = 0xE3069283#32 ∧
  ∀ n : Nat, crcUpdate 0#32 (List.replicate n 0#8) = 0#32

/-- R16: zero length, chaining at every split point, the address does not matter, and every 32-bit value is a valid
accumulator, of the single-byte update and on both paths. A length of 0 gives the incoming accumulator at any address over any
memory; two parts in a row give what the whole gives, wherever the three buffers stand and whichever path takes which part. -/
def Obligations.ChecksumLawsOfBothPaths : Prop :=
  (∀ c : Word, crcUpdate c [] = c) ∧
  (∀ (c : Word) (s1 s2 : List Byte), crcUpdate (crcUpdate c s1) s2 = crcUpdate c (s1 ++ s2)) ∧
  (∀ (m : Memory) (c : Word) (a : Nat), hwsum m c a 0 = .ok c ∧ swsum m c a 0 = .ok c) ∧
  (∀ (m : Memory) (a1 a2 a3 : Nat) (s1 s2 : List Byte),
    BufferHolds m a1 s1 → BufferHolds m a2 s2 → BufferHolds m a3 (s1 ++ s2) →
    ∀ c : Word, ∃ v1 v : Word,
      hwsum m c a1 s1.length = .ok v1 ∧ swsum m c a1 s1.length = .ok v1 ∧
      hwsum m v1 a2 s2.length = .ok v ∧ swsum m v1 a2 s2.length = .ok v ∧
      hwsum m c a3 (s1 ++ s2).length = .ok v ∧ swsum m c a3 (s1 ++ s2).length = .ok v) ∧
  (∀ (m m' : Memory) (a a' : Nat) (bs : List Byte), BufferHolds m a bs → BufferHolds m' a' bs →
    ∀ c : Word, ∃ v : Word, hwsum m c a bs.length = .ok v ∧ hwsum m' c a' bs.length = .ok v ∧
      swsum m c a bs.length = .ok v ∧ swsum m' c a' bs.length = .ok v)

/-- R15, the master equation: on every admitted buffer the Hardware Path and the Software Path give the single-byte update
over its bytes. -/
def Obligations.BothPathsEqualCrcUpdate : Prop :=
  ∀ (m : Memory) (c : Word) (a : Nat) (bs : List Byte), BufferHolds m a bs →
    hwsum m c a bs.length = .ok (crcUpdate c bs) ∧ swsum m c a bs.length = .ok (crcUpdate c bs)

/-! ### Memory and the cutting of a buffer -/

/-- R64, R73: a read of 1, 2, 4 or 8 bytes is little-endian, at any address, and raises `BufferFault` at its address exactly
when one of its bytes is not readable. -/
def Obligations.MemReadIsLittleEndianOrFaults : Prop :=
  ∀ (m : Memory) (a n : Nat), n ∈ [1, 2, 4, 8] →
    (∀ bs : List Byte, bs.length = n → BufferHolds m a bs →
      ∃ v : BitVec (8 * n), memRead (8 * n) m a = .ok v ∧ ∀ (j : Nat) (h : j < bs.length), byteAt v j = bs[j]) ∧
    ((∃ j, j < n ∧ m.byte? (a + j) = none) → memRead (8 * n) m a = .error (.bufferFault a))

/-- The widths of the reads of both paths in order (spec/20_memory.md section 4), at every address and length. -/
def Obligations.ReadWidthsOfBothPaths : Prop :=
  ∀ p len : Nat,
    readWidths (hwSteps p len) =
      List.replicate (4 * (len / 32)) 8 ++ List.replicate (len % 32 / 8) 8 ++ List.replicate (len % 8 / 2) 2
        ++ List.replicate (len % 2) 1 ∧
    readWidths (swSteps p len) =
      List.replicate (min ((4 - p % 4) % 4) len) 1
        ++ List.replicate (2 * ((len - min ((4 - p % 4) % 4) len) / 8)) 4
        ++ List.replicate ((len - min ((4 - p % 4) % 4) len) % 8) 1

/-- Every byte of the buffer is read exactly once, in increasing address order, and no byte outside it
(spec/20_memory.md section 4, which marks it as derived for both paths). -/
def Obligations.EveryBufferByteReadOnceInOrder : Prop :=
  ∀ p len : Nat,
    readAddresses (hwSteps p len) = List.range' p len ∧ readAddresses (swSteps p len) = List.range' p len

/-- Every 4-byte read of the Software Path is at a multiple of 4 (spec/20_memory.md section 3, which marks it as derived),
and the widths the Hardware Path reads do not depend on the address. -/
def Obligations.WordReadsAreAligned : Prop :=
  (∀ (p len : Nat), ∀ r ∈ (swSteps p len).flatMap stepReads, r.2 = 4 → r.1 % 4 = 0) ∧
  (∀ p q len : Nat, readWidths (hwSteps p len) = readWidths (hwSteps q len))

/-! ### Encoding -/

/-- R91: the packet's fields and its 21 bytes, low byte first; a byte sequence of any other length is no packet, and
decoding the bytes is decoding the packet. -/
def Obligations.PacketLayout : Prop :=
  (∀ (op : Byte) (crc : Word) (arg : BitVec 64) (len : Len),
    packetBytes (packetOf op crc arg len) =
      [op] ++ (List.range 4).map (byteAt crc) ++ (List.range 8).map (byteAt arg) ++ (List.range 8).map (byteAt len)) ∧
  (∀ p : Packet, packetOf (packetOp p) (packetCrc p) (packetArg p) (packetLen p) = p ∧
    (∀ i, i < 8 → (packetOp p).getLsbD i = p.getLsbD i) ∧ (∀ i, i < 32 → (packetCrc p).getLsbD i = p.getLsbD (8 + i)) ∧
    (∀ i, i < 64 → (packetArg p).getLsbD i = p.getLsbD (40 + i)) ∧
    (∀ i, i < 64 → (packetLen p).getLsbD i = p.getLsbD (104 + i)) ∧
    decode (packetBytes p) = decodePacket p) ∧
  (∀ bytes : List Byte, bytes.length ≠ 21 → decode bytes = .error (.wrongLength bytes.length))

/-- R99: the decoder compares the whole opcode with the 13 values; the match gives the command, whose fields are those the
format uses; any other opcode is rejected by name. -/
def Obligations.DecoderComparesTheWholeOpcode : Prop :=
  ∀ p : Packet,
    (packetOp p = 0x00#8 → decodePacket p = .ok .rdacc) ∧
    (packetOp p = 0x01#8 → decodePacket p = .ok (.ldacc (packetCrc p))) ∧
    (packetOp p = 0x02#8 → decodePacket p = .ok .rdstat) ∧
    (packetOp p = 0x03#8 → decodePacket p = .ok (.wrctl ((packetArg p).getLsbD 0))) ∧
    (packetOp p = 0x04#8 → decodePacket p = .ok .probe) ∧
    (packetOp p = 0x40#8 → decodePacket p = .ok (.fb8 ((packetArg p).setWidth 8))) ∧
    (packetOp p = 0x41#8 → decodePacket p = .ok (.fb16 ((packetArg p).setWidth 16))) ∧
    (packetOp p = 0x43#8 → decodePacket p = .ok (.fb64 (packetArg p))) ∧
    (packetOp p = 0x80#8 → decodePacket p = .ok (.tbl8 ((packetArg p).setWidth 8))) ∧
    (packetOp p = 0x83#8 →
      decodePacket p = .ok (.sb8 ((packetArg p).setWidth 32) ((packetArg p >>> 32).setWidth 32))) ∧
    (packetOp p = 0xC0#8 → decodePacket p = .ok (.cksum (packetCrc p) (packetArg p) (packetLen p))) ∧
    (packetOp p = 0xC1#8 → decodePacket p = .ok (.hwsum (packetCrc p) (packetArg p) (packetLen p))) ∧
    (packetOp p = 0xC2#8 → decodePacket p = .ok (.swsum (packetCrc p) (packetArg p) (packetLen p))) ∧
    (packetOp p ∉ definedOpcodes → decodePacket p = .error (.reservedCommand (packetOp p)))

/-- Decoding the bytes of an encoded command gives the command back, for every command and every operand
(spec/30_encoding.md sections 1 and 2). -/
def Obligations.DecodeOfEncodeIsTheCommand : Prop :=
  ∀ i : Instr, (encode i).length = 21 ∧ decode (encode i) = .ok i ∧ decodePacket (encodePacket i) = .ok i

/-- Encoding what a packet decodes to gives the packet with exactly its ignored bits cleared (spec/30_encoding.md
sections 2 and 3). -/
def Obligations.EncodeOfDecodeClearsIgnoredBits : Prop :=
  ∀ (p : Packet) (i : Instr), decodePacket p = .ok i → encodePacket i = p &&& usedMask i

/-- R98: two packets that agree on the bits the command uses decode to the same command and drive the engine to the same
outcome; a packet of a defined opcode decodes whatever its ignored bits are; and the canonical packet has zeros there. -/
def Obligations.IgnoredBitsAreIgnored : Prop :=
  (∀ (p q : Packet) (i : Instr), decodePacket p = .ok i → p &&& usedMask i = q &&& usedMask i →
    decodePacket q = .ok i ∧
    ∀ (s : State) (c : Nat) (rest : List Input),
      step { s with inputs := .command c p :: rest } = step { s with inputs := .command c q :: rest }) ∧
  (∀ p : Packet, packetOp p ∈ definedOpcodes → ∃ i, decodePacket p = .ok i) ∧
  (∀ i : Instr, encodePacket i &&& ~~~ usedMask i = 0#168)

/-- R100: 243 opcodes are reserved, the 224 whose field `zero` is not `000` and 19 more; a packet with one of them is refused
by name whatever else it holds, with nothing executed. -/
def Obligations.ReservedOpcodesAreRefused : Prop :=
  (((List.range 256).map (BitVec.ofNat 8)).filter (fun op => !definedOpcodes.contains op)).length = 243 ∧
  (((List.range 256).map (BitVec.ofNat 8)).filter (fun op => opZero op != 0#3)).length = 224 ∧
  (((List.range 256).map (BitVec.ofNat 8)).filter (fun op => opZero op == 0#3 && !definedOpcodes.contains op)) =
    [0x05#8, 0x06#8, 0x07#8, 0x42#8, 0x44#8, 0x45#8, 0x46#8, 0x47#8, 0x81#8, 0x82#8, 0x84#8, 0x85#8, 0x86#8, 0x87#8,
      0xC3#8, 0xC4#8, 0xC5#8, 0xC6#8, 0xC7#8] ∧
  (∀ (s : State) (c : Nat) (p : Packet) (rest : List Input), s.inputs = .command c p :: rest → c < s.accs.length →
    packetOp p ∉ definedOpcodes → step s = .refused (.reservedCommand (packetOp p)))

/-- Words written out in spec/95_test_vectors.md section 2.9 and spec/30_encoding.md section 6 decode to the commands they
stand for. -/
def Obligations.ListedWordsDecode : Prop :=
  decode [0x01#8, 0xFF#8, 0xFF#8, 0xFF#8, 0xFF#8, 0x00#8, 0x00#8, 0x00#8, 0x00#8, 0x00#8, 0x00#8, 0x00#8, 0x00#8, 0x00#8,
    0x00#8, 0x00#8, 0x00#8, 0x00#8, 0x00#8, 0x00#8, 0x00#8] = .ok (.ldacc 0xFFFFFFFF#32) ∧
  decode [0x41#8, 0x00#8, 0x00#8, 0x00#8, 0x00#8, 0x31#8, 0x32#8, 0x00#8, 0x00#8, 0x00#8, 0x00#8, 0x00#8, 0x00#8, 0x00#8,
    0x00#8, 0x00#8, 0x00#8, 0x00#8, 0x00#8, 0x00#8, 0x00#8] = .ok (.fb16 0x3231#16) ∧
  decode [0x83#8, 0x00#8, 0x00#8, 0x00#8, 0x00#8, 0x32#8, 0x33#8, 0x34#8, 0x35#8, 0x36#8, 0x37#8, 0x38#8, 0x39#8, 0x00#8,
    0x00#8, 0x00#8, 0x00#8, 0x00#8, 0x00#8, 0x00#8, 0x00#8] = .ok (.sb8 0x35343332#32 0x39383736#32) ∧
  decode [0xC0#8, 0x00#8, 0x00#8, 0x00#8, 0x00#8, 0x01#8, 0x10#8, 0x00#8, 0x00#8, 0x00#8, 0x00#8, 0x00#8, 0x00#8, 0x09#8,
    0x00#8, 0x00#8, 0x00#8, 0x00#8, 0x00#8, 0x00#8, 0x00#8] = .ok (.cksum 0#32 0x1001#64 9#64)

/-- R104: the four pseudo-instructions are their expansions, `SB8 w0, w1` for every two words of 32 bits. That the assembler
rejects it with a word of `2^32` or more is a clause of `AssemblerTakesExactlyFittingOperands`. -/
def Obligations.PseudoInstructionsExpand : Prop :=
  assemble (.pseudo .clracc) = assemble (.command (.ldacc 0)) ∧
  assemble (.pseudo .fswon) = assemble (.command (.wrctl 1)) ∧
  assemble (.pseudo .fswoff) = assemble (.command (.wrctl 0)) ∧
  (∀ w0 w1 : Nat, w0 < 2 ^ 32 → w1 < 2 ^ 32 →
    assemble (.pseudo (.sb8Words w0 w1)) = assemble (.command (.sb8 ((w1 <<< 32) ||| w0))) ∧
    assemble (.pseudo (.sb8Words w0 w1)) = some (encodePacket (.sb8 (BitVec.ofNat 32 w0) (BitVec.ofNat 32 w1))))

/-- The assembler emits the canonical packet of a command whose operands fit, and rejects any other: it never truncates
(spec/30_encoding.md section 6). The same of the pseudo-instructions: the three without operands are always taken, and
`SB8 w0, w1` is taken exactly when both words are below `2^32`. -/
def Obligations.AssemblerTakesExactlyFittingOperands : Prop :=
  assemble (.command .rdacc) = some (encodePacket .rdacc) ∧
  assemble (.command .rdstat) = some (encodePacket .rdstat) ∧
  assemble (.command .probe) = some (encodePacket .probe) ∧
  (∀ v : Nat,
    assemble (.command (.ldacc v)) = (if v < 2 ^ 32 then some (encodePacket (.ldacc (BitVec.ofNat 32 v))) else none) ∧
    assemble (.command (.wrctl v)) = (if v < 2 then some (encodePacket (.wrctl (v == 1))) else none) ∧
    assemble (.command (.fb8 v)) = (if v < 2 ^ 8 then some (encodePacket (.fb8 (BitVec.ofNat 8 v))) else none) ∧
    assemble (.command (.fb16 v)) = (if v < 2 ^ 16 then some (encodePacket (.fb16 (BitVec.ofNat 16 v))) else none) ∧
    assemble (.command (.fb64 v)) = (if v < 2 ^ 64 then some (encodePacket (.fb64 (BitVec.ofNat 64 v))) else none) ∧
    assemble (.command (.tbl8 v)) = (if v < 2 ^ 8 then some (encodePacket (.tbl8 (BitVec.ofNat 8 v))) else none) ∧
    assemble (.command (.sb8 v)) =
      (if v < 2 ^ 64 then some (encodePacket (.sb8 (BitVec.ofNat 32 v) (BitVec.ofNat 32 (v / 2 ^ 32)))) else none)) ∧
  (∀ crc addr len : Nat,
    assemble (.command (.cksum crc addr len)) = (if crc < 2 ^ 32 ∧ addr < 2 ^ 64 ∧ len < 2 ^ 64 then
      some (encodePacket (.cksum (BitVec.ofNat 32 crc) (BitVec.ofNat 64 addr) (BitVec.ofNat 64 len))) else none) ∧
    assemble (.command (.hwsum crc addr len)) = (if crc < 2 ^ 32 ∧ addr < 2 ^ 64 ∧ len < 2 ^ 64 then
      some (encodePacket (.hwsum (BitVec.ofNat 32 crc) (BitVec.ofNat 64 addr) (BitVec.ofNat 64 len))) else none) ∧
    assemble (.command (.swsum crc addr len)) = (if crc < 2 ^ 32 ∧ addr < 2 ^ 64 ∧ len < 2 ^ 64 then
      some (encodePacket (.swsum (BitVec.ofNat 32 crc) (BitVec.ofNat 64 addr) (BitVec.ofNat 64 len))) else none)) ∧
  assemble (.pseudo .clracc) = some (encodePacket (.ldacc 0#32)) ∧
  assemble (.pseudo .fswon) = some (encodePacket (.wrctl true)) ∧
  assemble (.pseudo .fswoff) = some (encodePacket (.wrctl false)) ∧
  (∀ w0 w1 : Nat,
    assemble (.pseudo (.sb8Words w0 w1)) = (if w0 < 2 ^ 32 ∧ w1 < 2 ^ 32 then
      some (encodePacket (.sb8 (BitVec.ofNat 32 w0) (BitVec.ofNat 32 w1))) else none))

/-! ### What each command does, where it completes -/

/-- R122: `RDACC` answers `ACC` and changes nothing; a second one answers the same. -/
def Obligations.RdaccAnswersAcc : Prop :=
  (∀ p : Packet, packetOp p = 0x00#8 → decodePacket p = .ok .rdacc) ∧
  (∀ (s : State) (a : Word), s.accs[s.ctx]? = some a →
    exec .rdacc s = .next { s with rsp := some a } ∧
    exec .rdacc { s with rsp := some a } = .next { s with rsp := some a })

/-- R123: `LDACC` loads `ACC` with `cmd.crc`, any 32-bit value, answers it, and writes nothing else; the old value has no
effect. -/
def Obligations.LdaccLoadsAcc : Prop :=
  (∀ p : Packet, packetOp p = 0x01#8 → decodePacket p = .ok (.ldacc (p.extractLsb' 8 32))) ∧
  (∀ (s : State) (a crc : Word), s.accs[s.ctx]? = some a →
    exec (.ldacc crc) s = .next { s with accs := s.accs.set s.ctx crc, rsp := some crc })

/-- R29, R126: `RDSTAT` answers `CAPV` in bit 0, `CAPF` in bit 1, `FSW` in bit 2 and zeros above, and changes nothing; with
`CAPF` 0 while `CAPV` is 0, only six values occur. -/
def Obligations.RdstatAnswersStatusView : Prop :=
  (∀ p : Packet, packetOp p = 0x02#8 → decodePacket p = .ok .rdstat) ∧
  (∀ s : State, ∃ v : Word, exec .rdstat s = .next { s with rsp := some v } ∧
    v.getLsbD 0 = s.capv ∧ v.getLsbD 1 = s.capf ∧ v.getLsbD 2 = s.fsw ∧ (∀ j, 3 ≤ j → v.getLsbD j = false) ∧
    v = BitVec.ofNat 32 (s.capv.toNat + 2 * s.capf.toNat + 4 * s.fsw.toNat) ∧
    ((s.capv = false → s.capf = false) → v ∈ [0#32, 1#32, 3#32, 4#32, 5#32, 7#32]))

/-- `WRCTL` writes `CTRL.FSW` with bit 0 of `cmd.arg` and nothing else, and answers the view after the write; the next
command sees it (spec/40_gate_and_registers.md section 3). -/
def Obligations.WrctlWritesOverride : Prop :=
  (∀ p : Packet, packetOp p = 0x03#8 → decodePacket p = .ok (.wrctl (p.getLsbD 40))) ∧
  (∀ (s : State) (v : Bool),
    exec (.wrctl v) s =
      .next { s with fsw := v, rsp := some (BitVec.ofNat 32 (s.capv.toNat + 2 * s.capf.toNat + 4 * v.toNat)) })

/-- R125: `PROBE` answers `HWAVAIL` as 1 or 0, in every state, and touches nothing, the capability cache included; the answer
does not depend on `FSW` and is the same at the next call. -/
def Obligations.ProbeAnswersGate : Prop :=
  (∀ p : Packet, packetOp p = 0x04#8 → decodePacket p = .ok .probe) ∧
  (∀ s : State,
    exec .probe s = .next { s with rsp := some (if s.cfg.hwavail then 0x00000001#32 else 0x00000000#32) } ∧
    ∀ t : State, exec .probe s = .next t → exec .probe t = .next t)

/-- With the feedback network present `FB8`, `FB16` and `FB64` put the written-out loop of the feedback over their data into
`ACC` and answer it, and write nothing else (spec/41_hardware_path.md section 2). -/
def Obligations.FeedbackCommandsStepAcc : Prop :=
  ∀ (s : State) (a : Word), s.cfg.hwavail = true → s.accs[s.ctx]? = some a →
    (∀ d : BitVec 8, exec (.fb8 d) s =
      .next { s with
        accs := s.accs.set s.ctx (shiftOut 8 (a ^^^ d.setWidth 32))
        rsp := some (shiftOut 8 (a ^^^ d.setWidth 32)) }) ∧
    (∀ d : BitVec 16, exec (.fb16 d) s =
      .next { s with
        accs := s.accs.set s.ctx (shiftOut 16 (a ^^^ d.setWidth 32))
        rsp := some (shiftOut 16 (a ^^^ d.setWidth 32)) }) ∧
    (∀ d : BitVec 64, exec (.fb64 d) s =
      .next { s with
        accs := s.accs.set s.ctx (shiftOut 32 (shiftOut 32 (a ^^^ d.extractLsb' 0 32) ^^^ d.extractLsb' 32 32))
        rsp := some (shiftOut 32 (shiftOut 32 (a ^^^ d.extractLsb' 0 32) ^^^ d.extractLsb' 32 32)) })

/-- `TBL8` and `SB8` put the single-byte update over their one or eight bytes into `ACC` and answer it, whatever `HWAVAIL` is,
and write nothing else (spec/42_software_path.md sections 1 and 2). -/
def Obligations.TableCommandsStepAcc : Prop :=
  ∀ (s : State) (a : Word), s.accs[s.ctx]? = some a →
    (∀ d : Byte, exec (.tbl8 d) s =
      .next { s with accs := s.accs.set s.ctx (crcUpdate a [d]), rsp := some (crcUpdate a [d]) }) ∧
    (∀ w0 w1 : Word, exec (.sb8 w0 w1) s =
      .next { s with
        accs := s.accs.set s.ctx (crcUpdate a (bytesOf64 (w1 ++ w0)))
        rsp := some (crcUpdate a (bytesOf64 (w1 ++ w0))) })

/-- `HWSUM` over a readable buffer, with the feedback network present, puts the single-byte update over the buffer's bytes from
`cmd.crc` into `ACC` and answers it, and writes nothing else; a buffer of length 0 may have any address
(spec/41_hardware_path.md section 3, spec/00_scope.md section 7). -/
def Obligations.HwsumAnswersCrcUpdate : Prop :=
  ∀ (s : State) (a crc : Word) (addr : Addr) (len : Len) (bs : List Byte),
    s.cfg.hwavail = true → s.accs[s.ctx]? = some a → bs.length = len.toNat → BufferHolds s.mem addr.toNat bs →
    exec (.hwsum crc addr len) s =
      .next { s with accs := s.accs.set s.ctx (crcUpdate crc bs), rsp := some (crcUpdate crc bs) }

/-- `SWSUM` over a readable buffer does the same on every engine (spec/42_software_path.md section 3,
spec/00_scope.md section 7). -/
def Obligations.SwsumAnswersCrcUpdate : Prop :=
  ∀ (s : State) (a crc : Word) (addr : Addr) (len : Len) (bs : List Byte),
    s.accs[s.ctx]? = some a → bs.length = len.toNat → BufferHolds s.mem addr.toNat bs →
    exec (.swsum crc addr len) s =
      .next { s with accs := s.accs.set s.ctx (crcUpdate crc bs), rsp := some (crcUpdate crc bs) }

/-- `CKSUM` over a readable buffer does the same on every engine, whatever the status and control bits are, and fills the
capability cache: `CAPV` becomes 1, and `CAPF` is `HWAVAIL` if the cache was unset and stays otherwise
(spec/43_dispatcher.md, spec/00_scope.md section 7). -/
def Obligations.CksumAnswersCrcUpdateAndFillsCache : Prop :=
  ∀ (s : State) (a crc : Word) (addr : Addr) (len : Len) (bs : List Byte),
    s.accs[s.ctx]? = some a → bs.length = len.toNat → BufferHolds s.mem addr.toNat bs →
    exec (.cksum crc addr len) s =
      .next { s with
        accs := s.accs.set s.ctx (crcUpdate crc bs)
        rsp := some (crcUpdate crc bs)
        capv := true
        capf := if s.capv then s.capf else s.cfg.hwavail }

/-! ### Where a command does not complete -/

/-- R141: without the feedback network `FB8`, `FB16`, `FB64` and `HWSUM` end in `HwUnavailable`, whatever `FSW` and their
operands are, a buffer that is not admitted included. -/
def Obligations.FeedbackNeedsHardware : Prop :=
  ∀ s : State, s.cfg.hwavail = false →
    (∀ d : BitVec 8, exec (.fb8 d) s = .fault .hwUnavailable) ∧
    (∀ d : BitVec 16, exec (.fb16 d) s = .fault .hwUnavailable) ∧
    (∀ d : BitVec 64, exec (.fb64 d) s = .fault .hwUnavailable) ∧
    (∀ (crc : Word) (addr : Addr) (len : Len), exec (.hwsum crc addr len) s = .fault .hwUnavailable)

/-- A buffer command whose buffer has a byte that is not readable, or passes the top of the address space, ends in
`BufferFault` at the first such address (spec/60_exceptions.md section 2). The address is counted without wrap, so that of a
buffer readable up to the top is 2^64: the model's choice, notes/assumptions/7.md. -/
def Obligations.BufferFaultAtFirstUnreadableByte : Prop :=
  ∀ (s : State) (crc : Word) (addr : Addr) (len : Len) (x : Nat),
    addr.toNat ≤ x → x < addr.toNat + len.toNat → s.mem.byte? x = none →
    (∀ y, addr.toNat ≤ y → y < x → (s.mem.byte? y).isSome) →
    exec (.swsum crc addr len) s = .fault (.bufferFault x) ∧
    exec (.cksum crc addr len) s = .fault (.bufferFault x) ∧
    (s.cfg.hwavail = true → exec (.hwsum crc addr len) s = .fault (.bufferFault x))

/-- Which command can end in which fault, exactly (spec/60_exceptions.md section 2, whose table the spec marks as derived):
`HwUnavailable` if it needs the network and there is none, else `BufferFault` if its buffer is not admitted, else none. The
address `BufferFault` records is counted without wrap, so that of a buffer readable up to the top is 2^64: the model's choice,
notes/assumptions/7.md. -/
def Obligations.FaultsOfEveryCommand : Prop :=
  ∀ (i : Instr) (s : State) (f : Fault),
    exec i s = .fault f ↔
      (needsHardware i = true ∧ s.cfg.hwavail = false ∧ f = .hwUnavailable) ∨
      ((needsHardware i = true → s.cfg.hwavail = true) ∧ ∃ x,
        f = .bufferFault x ∧ (bufferOf i).1 ≤ x ∧ x < (bufferOf i).1 + (bufferOf i).2 ∧ s.mem.byte? x = none ∧
        ∀ y, (bufferOf i).1 ≤ y → y < x → (s.mem.byte? y).isSome)

/-- Executing a command is refused for one reason only: its requester context does not exist (spec/60_exceptions.md
section 8; the refusal is the model's, notes/assumptions/8.md). -/
def Obligations.ExecRefusesOnlyAbsentContexts : Prop :=
  ∀ (i : Instr) (s : State) (r : Refusal), exec i s = .refused r → r = .noContext s.ctx ∧ s.accs.length ≤ s.ctx

/-! ### Frames -/

/-- R63: a command writes nothing but the requester's own `ACC`, `CAPV`, `CAPF`, `FSW` and its response; it never writes
memory, so that every byte reads as before. -/
def Obligations.CommandsWriteOnlyTheirState : Prop :=
  ∀ (i : Instr) (s t : State), exec i s = .next t →
    (∃ (a : Word) (capv capf fsw : Bool) (rsp : Option Word),
      t = { s with accs := s.accs.set s.ctx a, capv := capv, capf := capf, fsw := fsw, rsp := rsp }) ∧
    ∀ x : Nat, t.mem.byte? x = s.mem.byte? x

/-- Which command writes `ACC` and which flag, and the response of one that writes `ACC` (spec/10_state.md sections 1 and 2):
`RDACC`, `RDSTAT`, `WRCTL`, `PROBE` leave every `ACC`; only `WRCTL` writes `FSW`; only `CKSUM` writes `CAPV` and `CAPF`; every
other command answers its own new `ACC`; no command touches the `ACC` of another context. -/
def Obligations.FrameOfEveryCommand : Prop :=
  ∀ (i : Instr) (s t : State), exec i s = .next t →
    (i = .rdacc ∨ i = .rdstat ∨ i = .probe ∨ (∃ v, i = .wrctl v) → t.accs = s.accs) ∧
    ((∀ v, i ≠ .wrctl v) → t.fsw = s.fsw) ∧
    ((∀ crc addr len, i ≠ .cksum crc addr len) → t.capv = s.capv ∧ t.capf = s.capf) ∧
    (i ≠ .rdstat → i ≠ .probe → (∀ v, i ≠ .wrctl v) → t.rsp = t.accs[t.ctx]?) ∧
    t.rsp.isSome ∧ t.accs.length = s.accs.length ∧ (∀ c, c ≠ s.ctx → t.accs[c]? = s.accs[c]?)

/-- `LDACC`, `HWSUM`, `SWSUM` and `CKSUM` do not read `ACC`: whatever it held, the outcome is the same
(spec/10_state.md section 2). -/
def Obligations.BufferCommandsDoNotReadAcc : Prop :=
  ∀ (s : State) (b crc : Word) (addr : Addr) (len : Len),
    exec (.ldacc crc) { s with accs := s.accs.set s.ctx b } = exec (.ldacc crc) s ∧
    exec (.cksum crc addr len) { s with accs := s.accs.set s.ctx b } = exec (.cksum crc addr len) s ∧
    exec (.hwsum crc addr len) { s with accs := s.accs.set s.ctx b } = exec (.hwsum crc addr len) s ∧
    exec (.swsum crc addr len) { s with accs := s.accs.set s.ctx b } = exec (.swsum crc addr len) s

/-! ### The machine -/

/-- R90: with a command of an existing context at the port, a step is the execution of the decoded command, complete, in the
state in which the command has been taken from the port and its context is the one at the engine. With nothing at the port
the engine stays as it is, and a command of a context the engine does not have is refused: these two are the model's
choices, notes/assumptions/5.md and 8.md. -/
def Obligations.StepExecutesThePresentedCommand : Prop :=
  (∀ (s : State) (c : Nat) (p : Packet) (rest : List Input) (i : Instr), s.inputs = .command c p :: rest →
    c < s.accs.length → decodePacket p = .ok i → step s = exec i { s with ctx := c, inputs := rest }) ∧
  (∀ s : State, s.inputs = [] → step s = .next s) ∧
  (∀ (s : State) (c : Nat) (p : Packet) (rest : List Input), s.inputs = .command c p :: rest →
    s.accs.length ≤ c → step s = .refused (.noContext c))

/-- What the reset event leaves (spec/10_state.md section 10, spec/70_reset_and_hazards.md section 1): the three flags are 0, so
that the status view is 0; there is one `ACC` for each context, of any value; the parameters and the caller's memory are as
they were. That the event stands at the port and that no response stands after it is the model's choice,
notes/assumptions/5.md; that `HWAVAIL` is the same after the reset is the model's inference, notes/assumptions/9.md (the spec
fixes it only between two resets), and that the parameters are a field that the event keeps is its choice,
notes/assumptions/1.md. -/
def Obligations.ResetEventClearsTheFlags : Prop :=
  ∀ (s : State) (rest : List Input), s.inputs = .reset :: rest →
    ∃ t : State, step s = .next t ∧ t.capv = false ∧ t.capf = false ∧ t.fsw = false ∧
      t.accs.length = s.cfg.nctx ∧ t.cfg = s.cfg ∧ t.mem = s.mem ∧ t.inputs = rest ∧ t.rsp = none ∧
      exec .rdstat t = .next { t with rsp := some 0#32 }

/-- The platform's event changes what one address reads as and nothing else of the engine (the model's event,
notes/assumptions/6.md; spec/20_memory.md sections 1 and 5). -/
def Obligations.PlatformEventChangesOneByte : Prop :=
  ∀ (s : State) (addr : Addr) (v : Option Byte) (rest : List Input), s.mem.wf →
    s.inputs = .platform addr v :: rest →
    ∃ m : Memory, step s = .next { s with mem := m, inputs := rest } ∧ m.wf ∧
      ∀ x : Nat, m.byte? x = if x = addr.toNat then v else s.mem.byte? x

/-- The invariant holds after the reset that starts a run, of every engine with at least one context, over every memory in
canonical form, with every value of the accumulators (spec/10_state.md section 10). -/
def Obligations.InvariantHoldsAfterReset : Prop :=
  State.reset.Inv ∧
  ∀ (cfg : Config) (mem : Memory) (accs : List Word) (inputs : List Input),
    mem.wf → 1 ≤ cfg.nctx → accs.length = cfg.nctx → (State.afterReset cfg mem accs inputs).Inv

/-- Every step keeps the invariant: canonical memory, one `ACC` for each context, a legal requester, and the capability flag
unset or fixed at `HWAVAIL` (spec/10_state.md sections 1 and 4). -/
def Obligations.EveryStepKeepsTheInvariant : Prop :=
  ∀ s t : State, s.Inv → step s = .next t → t.Inv

/-- The capability flag is written at most once between two resets: it is set only by a `CKSUM`, to `HWAVAIL`, and once it is
set neither bit changes except by a reset (spec/10_state.md section 4). The last clause, that a set flag is `HWAVAIL` always,
is a sentence the spec marks as derived. -/
def Obligations.CapabilityFlagIsWrittenAtMostOnce : Prop :=
  ∀ s t : State, s.Inv → step s = .next t →
    (s.capv = true → s.inputs.head? ≠ some .reset → t.capv = true ∧ t.capf = s.capf) ∧
    (s.capv = false → t.capv = true → t.capf = s.cfg.hwavail ∧
      ∃ (c : Nat) (p : Packet) (rest : List Input), s.inputs = .command c p :: rest ∧ packetOp p = 0xC0#8) ∧
    (t.capv = true → t.capf = t.cfg.hwavail)

/-- Only a `WRCTL` and the reset event change `FSW`, and only the platform changes memory; no step changes the parameters
(spec/10_state.md section 1, spec/20_memory.md section 1). The platform's event is the model's, notes/assumptions/6.md; that
the parameters are a field of State is its choice, notes/assumptions/1.md; and that the reset event too leaves `HWAVAIL` is its
inference, notes/assumptions/9.md (the spec fixes it only between two resets). -/
def Obligations.WhoMayChangeOverrideAndMemory : Prop :=
  ∀ s t : State, step s = .next t →
    t.cfg = s.cfg ∧
    (t.fsw ≠ s.fsw → s.inputs.head? = some .reset ∨
      ∃ (c : Nat) (p : Packet) (rest : List Input), s.inputs = .command c p :: rest ∧ packetOp p = 0x03#8) ∧
    (t.mem ≠ s.mem → ∃ (addr : Addr) (v : Option Byte) (rest : List Input), s.inputs = .platform addr v :: rest)

/-- A context's `ACC` is touched by its own commands only: along any run in which no other event than commands of other
contexts is presented, however they are interleaved, it keeps its value (spec/60_exceptions.md section 8). -/
def Obligations.OtherContextsNeverTouchAcc : Prop :=
  ∀ (k n : Nat) (s t : State), (∀ x ∈ s.inputs.take n, commandOfOther k x = true) →
    Host.Core.run Sys2Proof.core n s = .next t → t.accs[k]? = s.accs[k]?

/-- The response of `CKSUM` does not depend on `HWAVAIL`, `FSW`, the capability cache, the context or any `ACC`: two engines
that read the same memory answer the same (spec/43_dispatcher.md, which marks it as derived). -/
def Obligations.CksumResponseIsPure : Prop :=
  ∀ (s s' t t' : State) (crc : Word) (addr : Addr) (len : Len), s.mem = s'.mem →
    exec (.cksum crc addr len) s = .next t → exec (.cksum crc addr len) s' = .next t' → t.rsp = t'.rsp ∧ t.rsp.isSome

/-- The properties the document lists as testable (spec/43_dispatcher.md, which marks them as derived): zero length answers
`cmd.crc` at any address; `CKSUM` of a first part and then, from its response, of a second part answers what one `CKSUM` of
the whole answers, wherever the three buffers stand; and `HWSUM`, where there is the hardware, and `SWSUM` answer the same.
The second part may follow the first at once, or stand in any other state `u` that reads it: whatever events, commands of any
context, resets or platform changes come in between, whatever they leave in the cache, the override and every `ACC`. -/
def Obligations.SplittingAndPathsDoNotShow : Prop :=
  ∀ (s : State) (a crc : Word) (a1 a2 a3 : Addr) (l1 l2 l3 : Len) (bs1 bs2 : List Byte),
    s.accs[s.ctx]? = some a → bs1.length = l1.toNat → bs2.length = l2.toNat → (bs1 ++ bs2).length = l3.toNat →
    BufferHolds s.mem a1.toNat bs1 → BufferHolds s.mem a2.toNat bs2 → BufferHolds s.mem a3.toNat (bs1 ++ bs2) →
    ∃ (t1 t2 t3 t4 t5 : State) (v1 v : Word),
      exec (.cksum crc a1 l1) s = .next t1 ∧ t1.rsp = some v1 ∧
      exec (.cksum v1 a2 l2) t1 = .next t2 ∧ t2.rsp = some v ∧
      (∀ (u : State) (b : Word), u.accs[u.ctx]? = some b → BufferHolds u.mem a2.toNat bs2 →
        ∃ t, exec (.cksum v1 a2 l2) u = .next t ∧ t.rsp = some v) ∧
      exec (.cksum crc a3 l3) s = .next t3 ∧ t3.rsp = some v ∧
      exec (.swsum crc a3 l3) s = .next t4 ∧ t4.rsp = some v ∧
      (s.cfg.hwavail = true → ∃ t6, exec (.hwsum crc a3 l3) s = .next t6 ∧ t6.rsp = some v) ∧
      exec (.cksum crc a3 0#64) s = .next t5 ∧ t5.rsp = some crc

/-- After a reset `ACC` may hold any value; a `LDACC` or a buffer command presented first makes all that follows independent of
it, on every engine and for every context (spec/70_reset_and_hazards.md section 2, which marks it as derived). With any two
values of that `ACC` the run has the same outcome after each number of steps, whatever is presented next; the first command
completes where it can, its own result independent too, and leaves its response in `ACC`. For an `SB8` that follows, the values
are written out: over a buffer that reads `bs`, the slicing step starts at the checksum of the buffer. -/
def Obligations.FirstWriteHidesTheResetValue : Prop :=
  (∀ (cfg : Config) (mem : Memory) (accs : List Word) (c : Nat) (b : Word) (p : Packet) (i : Instr) (rest : List Input)
      (n : Nat), decodePacket p = .ok i →
    (∃ (crc : Word) (addr : Addr) (len : Len),
      i = .ldacc crc ∨ i = .cksum crc addr len ∨ i = .hwsum crc addr len ∨ i = .swsum crc addr len) →
    Host.Core.run Sys2Proof.core (n + 1) (State.afterReset cfg mem (accs.set c b) (.command c p :: rest)) =
      Host.Core.run Sys2Proof.core (n + 1) (State.afterReset cfg mem accs (.command c p :: rest)) ∧
    (c < accs.length → CanComplete i (State.afterReset cfg mem accs (.command c p :: rest)) →
      ∃ t : State, step (State.afterReset cfg mem accs (.command c p :: rest)) = .next t ∧ t.inputs = rest ∧
        t.rsp.isSome ∧ t.accs[c]? = t.rsp)) ∧
  (∀ (cfg : Config) (mem : Memory) (a : Word) (accs : List Word) (v w0 w1 : Word) (addr : Addr) (len : Len)
      (bs : List Byte) (rest : List Input), bs.length = len.toNat → BufferHolds mem addr.toNat bs →
    (∃ t : State, Host.Core.run Sys2Proof.core 2 (State.afterReset cfg mem (a :: accs)
        (.command 0 (encodePacket (.ldacc v)) :: .command 0 (encodePacket (.sb8 w0 w1)) :: rest)) = .next t ∧
      t.accs = sb8 v w0 w1 :: accs ∧ t.rsp = some (sb8 v w0 w1) ∧ t.inputs = rest) ∧
    (∃ t : State, Host.Core.run Sys2Proof.core 2 (State.afterReset cfg mem (a :: accs)
        (.command 0 (encodePacket (.cksum v addr len)) :: .command 0 (encodePacket (.sb8 w0 w1)) :: rest)) = .next t ∧
      t.accs = sb8 (crcUpdate v bs) w0 w1 :: accs ∧ t.rsp = some (sb8 (crcUpdate v bs) w0 w1) ∧ t.inputs = rest) ∧
    (∃ t : State, Host.Core.run Sys2Proof.core 2 (State.afterReset cfg mem (a :: accs)
        (.command 0 (encodePacket (.swsum v addr len)) :: .command 0 (encodePacket (.sb8 w0 w1)) :: rest)) = .next t ∧
      t.accs = sb8 (crcUpdate v bs) w0 w1 :: accs ∧ t.rsp = some (sb8 (crcUpdate v bs) w0 w1) ∧ t.inputs = rest) ∧
    (cfg.hwavail = true → ∃ t : State, Host.Core.run Sys2Proof.core 2 (State.afterReset cfg mem (a :: accs)
        (.command 0 (encodePacket (.hwsum v addr len)) :: .command 0 (encodePacket (.sb8 w0 w1)) :: rest)) = .next t ∧
      t.accs = sb8 (crcUpdate v bs) w0 w1 :: accs ∧ t.rsp = some (sb8 (crcUpdate v bs) w0 w1) ∧ t.inputs = rest))

/-- When the presented command completes, exactly (spec/60_exceptions.md sections 1 and 2): its context exists, its opcode is
defined, the feedback network is there if it needs it, and its buffer, if it has one, is admitted. Nothing waits. That a
command of a context the engine does not have is presented at all, and then does not complete, is the model's choice,
notes/assumptions/8.md. -/
def Obligations.CommandCompletesExactlyWhenAdmitted : Prop :=
  ∀ (s : State) (c : Nat) (p : Packet) (rest : List Input), s.inputs = .command c p :: rest →
    ((∃ t, step s = .next t) ↔ c < s.accs.length ∧ ∃ i, decodePacket p = .ok i ∧ CanComplete i s)
end

