-- ==== Sys2Proof/Laws/State.lean ====
section
/-!
SUPPORT. One lemma for each field of each update of State, so that no later proof unfolds a record update.
-/

namespace Sys2Proof.Machine

/-! ### A command is taken from the port -/

@[simp] theorem State.accept_cfg (s : State) (c : Nat) (rest : List Input) : (s.accept c rest).cfg = s.cfg := rfl
@[simp] theorem State.accept_mem (s : State) (c : Nat) (rest : List Input) : (s.accept c rest).mem = s.mem := rfl
@[simp] theorem State.accept_accs (s : State) (c : Nat) (rest : List Input) : (s.accept c rest).accs = s.accs := rfl
@[simp] theorem State.accept_capv (s : State) (c : Nat) (rest : List Input) : (s.accept c rest).capv = s.capv := rfl
@[simp] theorem State.accept_capf (s : State) (c : Nat) (rest : List Input) : (s.accept c rest).capf = s.capf := rfl
@[simp] theorem State.accept_fsw (s : State) (c : Nat) (rest : List Input) : (s.accept c rest).fsw = s.fsw := rfl
@[simp] theorem State.accept_ctx (s : State) (c : Nat) (rest : List Input) : (s.accept c rest).ctx = c := rfl
@[simp] theorem State.accept_rsp (s : State) (c : Nat) (rest : List Input) : (s.accept c rest).rsp = s.rsp := rfl
@[simp] theorem State.accept_inputs (s : State) (c : Nat) (rest : List Input) : (s.accept c rest).inputs = rest := rfl
@[simp] theorem State.accept_resets (s : State) (c : Nat) (rest : List Input) : (s.accept c rest).resets = s.resets := rfl

/-! ### The reset event -/

@[simp] theorem State.takeReset_cfg (s : State) (rest : List Input) : (s.takeReset rest).cfg = s.cfg := rfl
@[simp] theorem State.takeReset_mem (s : State) (rest : List Input) : (s.takeReset rest).mem = s.mem := rfl
@[simp] theorem State.takeReset_accs (s : State) (rest : List Input) : (s.takeReset rest).accs = (List.range s.cfg.nctx).map (Config.accDraw s.resets) := rfl
@[simp] theorem State.takeReset_capv (s : State) (rest : List Input) : (s.takeReset rest).capv = false := rfl
@[simp] theorem State.takeReset_capf (s : State) (rest : List Input) : (s.takeReset rest).capf = false := rfl
@[simp] theorem State.takeReset_fsw (s : State) (rest : List Input) : (s.takeReset rest).fsw = false := rfl
@[simp] theorem State.takeReset_ctx (s : State) (rest : List Input) : (s.takeReset rest).ctx = 0 := rfl
@[simp] theorem State.takeReset_rsp (s : State) (rest : List Input) : (s.takeReset rest).rsp = none := rfl
@[simp] theorem State.takeReset_inputs (s : State) (rest : List Input) : (s.takeReset rest).inputs = rest := rfl
@[simp] theorem State.takeReset_resets (s : State) (rest : List Input) : (s.takeReset rest).resets = s.resets + 1 := rfl

/-! ### The platform's event -/

@[simp] theorem State.platformPut_cfg (s : State) (a : Addr) (v : Option Byte) (rest : List Input) : (s.platformPut a v rest).cfg = s.cfg := rfl
@[simp] theorem State.platformPut_mem (s : State) (a : Addr) (v : Option Byte) (rest : List Input) : (s.platformPut a v rest).mem = s.mem.put a.toNat v := rfl
@[simp] theorem State.platformPut_accs (s : State) (a : Addr) (v : Option Byte) (rest : List Input) : (s.platformPut a v rest).accs = s.accs := rfl
@[simp] theorem State.platformPut_capv (s : State) (a : Addr) (v : Option Byte) (rest : List Input) : (s.platformPut a v rest).capv = s.capv := rfl
@[simp] theorem State.platformPut_capf (s : State) (a : Addr) (v : Option Byte) (rest : List Input) : (s.platformPut a v rest).capf = s.capf := rfl
@[simp] theorem State.platformPut_fsw (s : State) (a : Addr) (v : Option Byte) (rest : List Input) : (s.platformPut a v rest).fsw = s.fsw := rfl
@[simp] theorem State.platformPut_ctx (s : State) (a : Addr) (v : Option Byte) (rest : List Input) : (s.platformPut a v rest).ctx = s.ctx := rfl
@[simp] theorem State.platformPut_rsp (s : State) (a : Addr) (v : Option Byte) (rest : List Input) : (s.platformPut a v rest).rsp = s.rsp := rfl
@[simp] theorem State.platformPut_inputs (s : State) (a : Addr) (v : Option Byte) (rest : List Input) : (s.platformPut a v rest).inputs = rest := rfl
@[simp] theorem State.platformPut_resets (s : State) (a : Addr) (v : Option Byte) (rest : List Input) : (s.platformPut a v rest).resets = s.resets := rfl

/-! ### The capability cache -/

@[simp] theorem State.fillCache_cfg (s : State) (f : Bool) : (s.fillCache f).cfg = s.cfg := rfl
@[simp] theorem State.fillCache_mem (s : State) (f : Bool) : (s.fillCache f).mem = s.mem := rfl
@[simp] theorem State.fillCache_accs (s : State) (f : Bool) : (s.fillCache f).accs = s.accs := rfl
@[simp] theorem State.fillCache_capv (s : State) (f : Bool) : (s.fillCache f).capv = true := rfl
@[simp] theorem State.fillCache_capf (s : State) (f : Bool) : (s.fillCache f).capf = f := rfl
@[simp] theorem State.fillCache_fsw (s : State) (f : Bool) : (s.fillCache f).fsw = s.fsw := rfl
@[simp] theorem State.fillCache_ctx (s : State) (f : Bool) : (s.fillCache f).ctx = s.ctx := rfl
@[simp] theorem State.fillCache_rsp (s : State) (f : Bool) : (s.fillCache f).rsp = s.rsp := rfl
@[simp] theorem State.fillCache_inputs (s : State) (f : Bool) : (s.fillCache f).inputs = s.inputs := rfl
@[simp] theorem State.fillCache_resets (s : State) (f : Bool) : (s.fillCache f).resets = s.resets := rfl

/-! ### The command port, as the host sets it -/

@[simp] theorem State.withFetchWord_cfg (s : State) (n w : Nat) : (s.withFetchWord n w).cfg = s.cfg := rfl
@[simp] theorem State.withFetchWord_mem (s : State) (n w : Nat) : (s.withFetchWord n w).mem = s.mem := rfl
@[simp] theorem State.withFetchWord_accs (s : State) (n w : Nat) : (s.withFetchWord n w).accs = s.accs := rfl
@[simp] theorem State.withFetchWord_capv (s : State) (n w : Nat) : (s.withFetchWord n w).capv = s.capv := rfl
@[simp] theorem State.withFetchWord_capf (s : State) (n w : Nat) : (s.withFetchWord n w).capf = s.capf := rfl
@[simp] theorem State.withFetchWord_fsw (s : State) (n w : Nat) : (s.withFetchWord n w).fsw = s.fsw := rfl
@[simp] theorem State.withFetchWord_ctx (s : State) (n w : Nat) : (s.withFetchWord n w).ctx = s.ctx := rfl
@[simp] theorem State.withFetchWord_rsp (s : State) (n w : Nat) : (s.withFetchWord n w).rsp = s.rsp := rfl
@[simp] theorem State.withFetchWord_inputs (s : State) (n w : Nat) : (s.withFetchWord n w).inputs = .command s.ctx (tablePacket n w) :: s.inputs := rfl
@[simp] theorem State.withFetchWord_resets (s : State) (n w : Nat) : (s.withFetchWord n w).resets = s.resets := rfl

/-! ### The accumulator of the context at the engine -/

/-- Taking a command selects its context's accumulator. -/
@[simp] theorem State.accept_acc? (s : State) (c : Nat) (rest : List Input) : (s.accept c rest).acc? = s.accs[c]? := rfl

/-- The accumulator exists exactly when the context does. -/
theorem State.acc?_isSome (s : State) : s.acc?.isSome = decide (s.ctx < s.accs.length) := by
  by_cases h : s.ctx < s.accs.length <;> simp [State.acc?, h]

/-- Two states with the same fields are one state. -/
theorem State.ext' {s t : State} (h1 : s.cfg = t.cfg) (h2 : s.mem = t.mem) (h3 : s.accs = t.accs) (h4 : s.capv = t.capv)
    (h5 : s.capf = t.capf) (h6 : s.fsw = t.fsw) (h7 : s.ctx = t.ctx) (h8 : s.rsp = t.rsp) (h9 : s.inputs = t.inputs)
    (h10 : s.resets = t.resets) : s = t := by
  cases s; cases t; simp_all

end Sys2Proof.Machine
end

