-- ==== Sys2Proof/Laws/Memory.lean ====
section
/-!
SUPPORT. The laws of the input buffer space: reading after the platform's change, the canonical form, and the three ways of
looking at a buffer (its bytes, its first unreadable address, its admission).
-/

namespace Sys2Proof.Machine

@[simp] theorem Memory.find_nil (a : Nat) : Memory.find [] a = none := rfl

@[simp] theorem Memory.find_cons (k a : Nat) (b : Byte) (m : Memory) :
    Memory.find ((k, b) :: m) a = if k = a then some b else Memory.find m a := rfl

/-- An address below every listed one is not listed. -/
theorem Memory.find_eq_none_of_lt {m : Memory} {a : Nat} (h : ∀ x ∈ m, a < x.1) : m.find a = none := by
  induction m with
  | nil => rfl
  | cons x m ih =>
    obtain ⟨k, b⟩ := x
    have hk : a < k := h (k, b) (by simp)
    rw [Memory.find_cons, if_neg (by omega)]
    exact ih fun x hx => h x (by simp [hx])

/-- Reading the address the platform has set gives what was set. -/
theorem Memory.find_put_same {m : Memory} (a : Nat) (v : Option Byte)
    (h : m.Pairwise fun x y => x.1 < y.1) : (m.put a v).find a = v := by
  induction m with
  | nil => cases v <;> simp [Memory.put]
  | cons x m ih =>
    obtain ⟨k, b⟩ := x
    rw [List.pairwise_cons] at h
    unfold Memory.put
    split
    · rename_i hlt
      have : Memory.find m a = none := Memory.find_eq_none_of_lt fun x hx => lt_trans hlt (h.1 x hx)
      cases v
      · simp [this]; omega
      · simp
    · split
      · rename_i heq
        subst heq
        cases v
        · exact Memory.find_eq_none_of_lt h.1
        · simp
      · rename_i hne
        rw [Memory.find_cons, if_neg (by omega), ih h.2]

/-- Every other address reads as before. -/
theorem Memory.find_put_other {m : Memory} {a x : Nat} (v : Option Byte) (hx : x ≠ a) :
    (m.put a v).find x = m.find x := by
  induction m with
  | nil => cases v <;> simp [Memory.put, Ne.symm hx]
  | cons y m ih =>
    obtain ⟨k, b⟩ := y
    unfold Memory.put
    split
    · cases v <;> simp [Ne.symm hx]
    · split
      · rename_i heq
        subst heq
        cases v <;> simp [Ne.symm hx]
      · simp [ih]

/-- What the platform lists lies among what was listed and the address set. -/
theorem Memory.mem_put {m : Memory} {a : Nat} {v : Option Byte} {x : Host.Cell} (h : x ∈ m.put a v) :
    x ∈ m ∨ x.1 = a := by
  induction m with
  | nil => cases v <;> simp_all [Memory.put]
  | cons y m ih =>
    obtain ⟨k, b⟩ := y
    unfold Memory.put at h
    split at h
    · cases v
      · exact .inl h
      · rcases List.mem_cons.1 h with rfl | h
        · exact .inr rfl
        · exact .inl h
    · split at h
      · cases v
        · exact .inl (List.mem_cons_of_mem _ h)
        · rcases List.mem_cons.1 h with rfl | h
          · exact .inr rfl
          · exact .inl (List.mem_cons_of_mem _ h)
      · simp only [List.mem_cons] at h ⊢
        rcases h with h | h
        · exact .inl (.inl h)
        · rcases ih h with h | h
          · exact .inl (.inr h)
          · exact .inr h

/-- The platform's change keeps the canonical form. -/
theorem Memory.put_wf {m : Memory} {a : Nat} (v : Option Byte) (ha : a < Config.addressSpace) (h : m.wf) :
    (m.put a v).wf := by
  refine ⟨?_, fun x hx => (Memory.mem_put hx).elim (h.2 x) (fun e => e ▸ ha)⟩
  have hs := h.1
  clear h
  induction m with
  | nil => cases v <;> simp [Memory.put]
  | cons y m ih =>
    obtain ⟨k, b⟩ := y
    rw [List.pairwise_cons] at hs
    unfold Memory.put
    split
    · rename_i hlt
      cases v
      · exact List.pairwise_cons.2 hs
      · refine List.pairwise_cons.2 ⟨?_, List.pairwise_cons.2 hs⟩
        intro x hx
        rcases List.mem_cons.1 hx with rfl | hx
        · exact hlt
        · exact lt_trans hlt (hs.1 x hx)
    · split
      · rename_i heq
        subst heq
        cases v
        · exact hs.2
        · exact List.pairwise_cons.2 hs
      · rename_i hge hne
        refine List.pairwise_cons.2 ⟨fun x hx => ?_, ih hs.2⟩
        rcases Memory.mem_put hx with hx | hx
        · exact hs.1 x hx
        · simp only [hx]; omega

/-- Reset's memory has the canonical form. -/
theorem State.reset_mem_wf : State.reset.mem.wf := by decide

/-- Reading one byte after the platform's change. -/
theorem Memory.byte?_put {m : Memory} {a : Nat} (v : Option Byte) (ha : a < Config.addressSpace) (h : m.wf) (x : Nat) :
    (m.put a v).byte? x = if x = a then v else m.byte? x := by
  unfold Memory.byte?
  by_cases hx : x = a
  · subst hx
    rw [if_pos ha, if_pos rfl, Memory.find_put_same x v h.1]
  · rw [if_neg hx, Memory.find_put_other v hx]

/-- A readable byte has an address. -/
theorem Memory.lt_of_byte? {m : Memory} {a : Nat} {b : Byte} (h : m.byte? a = some b) : a < 2 ^ 64 := by
  unfold Memory.byte? at h
  split at h
  · rename_i hlt; exact hlt
  · cases h

/-! ### A buffer -/

@[simp] theorem Memory.bytes_zero (m : Memory) (a : Nat) : m.bytes a 0 = some [] := rfl

/-- The bytes of a buffer are `bs` exactly when the buffer holds `bs` and has that length. -/
theorem Memory.bytes_eq_some_iff (m : Memory) (a n : Nat) (bs : List Byte) :
    m.bytes a n = some bs ↔ bs.length = n ∧ BufferHolds m a bs := by
  induction n generalizing a bs with
  | zero =>
    constructor
    · intro h
      cases h
      exact ⟨rfl, fun j h => absurd h (by simp)⟩
    · rintro ⟨h, -⟩
      rw [List.length_eq_zero_iff] at h
      subst h
      rfl
  | succ n ih =>
    unfold Memory.bytes
    cases hb : m.byte? a with
    | none =>
      simp only [reduceCtorEq, false_iff, not_and]
      intro hl hh
      have := hh 0 (by omega)
      simp_all
    | some b =>
      simp only [Option.map_eq_some_iff]
      constructor
      · rintro ⟨bs', h, rfl⟩
        obtain ⟨hl, hh⟩ := (ih (a + 1) bs').1 h
        refine ⟨by simp [hl], fun j hj => ?_⟩
        cases j with
        | zero => simpa using hb
        | succ j =>
          have := hh j (by simpa using hj)
          rw [List.getElem_cons_succ, ← this]
          congr 1
          omega
      · rintro ⟨hl, hh⟩
        cases bs with
        | nil => simp at hl
        | cons b' bs' =>
          refine ⟨bs', (ih (a + 1) bs').2 ⟨by simpa using hl, fun j hj => ?_⟩, ?_⟩
          · have := hh (j + 1) (by simpa using hj)
            rw [List.getElem_cons_succ] at this
            rw [← this]
            congr 1
            omega
          · have := hh 0 (by simp)
            simp_all

/-- No address of the buffer is unreadable exactly when all are readable. -/
theorem Memory.firstUnreadable_eq_none_iff (m : Memory) (a n : Nat) :
    m.firstUnreadable a n = none ↔ ∀ x, a ≤ x → x < a + n → (m.byte? x).isSome := by
  induction n generalizing a with
  | zero => simp [Memory.firstUnreadable]; omega
  | succ n ih =>
    unfold Memory.firstUnreadable
    cases hb : m.byte? a with
    | none =>
      simp only [reduceCtorEq, false_iff, not_forall]
      exact ⟨a, le_refl a, by omega, by simp [hb]⟩
    | some b =>
      simp only [ih]
      constructor
      · intro h x h1 h2
        rcases Nat.eq_or_lt_of_le h1 with rfl | h1
        · simp [hb]
        · exact h x h1 (by omega)
      · exact fun h x h1 h2 => h x (by omega) (by omega)

/-- The first unreadable address is in the buffer, is not readable, and all before it are. -/
theorem Memory.firstUnreadable_eq_some_iff (m : Memory) (a n x : Nat) :
    m.firstUnreadable a n = some x ↔
      a ≤ x ∧ x < a + n ∧ m.byte? x = none ∧ ∀ y, a ≤ y → y < x → (m.byte? y).isSome := by
  induction n generalizing a with
  | zero => simp [Memory.firstUnreadable]; omega
  | succ n ih =>
    unfold Memory.firstUnreadable
    cases hb : m.byte? a with
    | none =>
      simp only [Option.some.injEq]
      constructor
      · rintro rfl
        exact ⟨le_refl a, by omega, hb, fun y h1 h2 => absurd h2 (by omega)⟩
      · rintro ⟨h1, -, -, h4⟩
        rcases Nat.eq_or_lt_of_le h1 with h | h
        · exact h
        · have := h4 a (le_refl a) h
          simp [hb] at this
    | some b =>
      simp only [ih]
      constructor
      · rintro ⟨h1, h2, h3, h4⟩
        refine ⟨by omega, by omega, h3, fun y h5 h6 => ?_⟩
        rcases Nat.eq_or_lt_of_le h5 with rfl | h5
        · simp [hb]
        · exact h4 y h5 h6
      · rintro ⟨h1, h2, h3, h4⟩
        refine ⟨?_, by omega, h3, fun y h5 h6 => h4 y (by omega) h6⟩
        rcases Nat.eq_or_lt_of_le h1 with rfl | h
        · simp [hb] at h3
        · exact h

/-- A buffer whose bytes are known has no unreadable address. -/
theorem Memory.firstUnreadable_of_bufferHolds {m : Memory} {a : Nat} {bs : List Byte} (h : BufferHolds m a bs) :
    m.firstUnreadable a bs.length = none := by
  rw [Memory.firstUnreadable_eq_none_iff]
  intro x h1 h2
  have := h (x - a) (by omega)
  rw [show a + (x - a) = x by omega] at this
  simp [this]

/-- The buffer is admitted in the sense of the spec exactly when none of its addresses is unreadable. -/
theorem admitted_iff_firstUnreadable (m : Memory) (a n : Nat) : Admitted m a n ↔ m.firstUnreadable a n = none := by
  rw [Memory.firstUnreadable_eq_none_iff]
  constructor
  · rintro (rfl | ⟨-, h⟩)
    · intro x h1 h2; omega
    · exact h
  · intro h
    rcases Nat.eq_zero_or_pos n with rfl | hn
    · exact .inl rfl
    · refine .inr ⟨?_, h⟩
      obtain ⟨b, hb⟩ := Option.isSome_iff_exists.1 (h (a + n - 1) (by omega) (by omega))
      have := Memory.lt_of_byte? hb
      omega

end Sys2Proof.Machine
end

