-- ==== Sys2Proof/Laws/Packet.lean ====
section
/-!
SUPPORT. The fields of a packet made of its fields, and the bytes of a packet.
-/

namespace Sys2Proof

@[simp] theorem packetOp_packetOf (op : Byte) (crc : Word) (arg : BitVec 64) (len : Len) :
    packetOp (packetOf op crc arg len) = op := by
  ext i hi
  simp only [packetOp, packetOf, BitVec.getElem_extractLsb', BitVec.getLsbD_append]
  simp [hi]

@[simp] theorem packetCrc_packetOf (op : Byte) (crc : Word) (arg : BitVec 64) (len : Len) :
    packetCrc (packetOf op crc arg len) = crc := by
  ext i hi
  simp only [packetCrc, packetOf, BitVec.getElem_extractLsb', BitVec.getLsbD_append]
  simp [show 8 + i - 8 = i by omega, hi, show ¬ (8 + i < 8) by omega]

@[simp] theorem packetArg_packetOf (op : Byte) (crc : Word) (arg : BitVec 64) (len : Len) :
    packetArg (packetOf op crc arg len) = arg := by
  ext i hi
  simp only [packetArg, packetOf, BitVec.getElem_extractLsb', BitVec.getLsbD_append]
  simp [show 40 + i - 8 - 32 = i by omega, hi, show ¬ (40 + i < 8) by omega, show ¬ (40 + i - 8 < 32) by omega]

@[simp] theorem packetLen_packetOf (op : Byte) (crc : Word) (arg : BitVec 64) (len : Len) :
    packetLen (packetOf op crc arg len) = len := by
  ext i hi
  simp only [packetLen, packetOf, BitVec.getElem_extractLsb', BitVec.getLsbD_append]
  simp [show 104 + i - 8 - 32 - 64 = i by omega, show ¬ (104 + i < 8) by omega,
    show ¬ (104 + i - 8 < 32) by omega, show ¬ (104 + i - 8 - 32 < 64) by omega, BitVec.getLsbD_eq_getElem hi]

@[simp] theorem packetBytes_length (p : Packet) : (packetBytes p).length = 21 := by simp [packetBytes]

@[simp] theorem leValue_nil : leValue [] = 0 := rfl

@[simp] theorem leValue_cons (b : Byte) (bs : List Byte) : leValue (b :: bs) = b.toNat + 256 * leValue bs := rfl

/-- The value of a byte sequence fits its bits. -/
theorem leValue_lt (bs : List Byte) : leValue bs < 256 ^ bs.length := by
  induction bs with
  | nil => simp
  | cons b bs ih =>
    have := b.isLt
    rw [leValue_cons, List.length_cons, pow_succ]
    omega

end Sys2Proof
end

