-- ==== Sys2Proof/Laws/Ops.lean ====
section
/-!
SUPPORT. One lemma for each shared operation that says everything it can answer; proofs cite these and do not unfold it.
-/

namespace Sys2Proof.Machine

@[simp] theorem respond_eq (s : State) (v : Word) : respond s v = .next { s with rsp := some v } := rfl

@[simp] theorem raise_eq (f : Fault) : raise f = .fault f := rfl

/-- `rsp <- ACC` when the context exists. -/
theorem respondAcc_of_acc {s : State} {a : Word} (h : s.acc? = some a) :
    respondAcc s = .next { s with rsp := some a } := by
  simp [respondAcc, h]

/-- `ACC <- f(ACC); rsp <- ACC` when the context exists. -/
theorem updateAcc_of_acc {s : State} {a : Word} (f : Word → Word) (h : s.acc? = some a) :
    updateAcc s f = .next { s with accs := s.accs.set s.ctx (f a), rsp := some (f a) } := by
  simp [updateAcc, h]

/-- Everything `respondAcc` can answer. -/
theorem respondAcc_cases (s : State) :
    (∃ a, s.acc? = some a ∧ respondAcc s = .next { s with rsp := some a }) ∨
      (s.acc? = none ∧ respondAcc s = .refused (.noContext s.ctx)) := by
  cases h : s.acc? with
  | none => exact .inr ⟨rfl, by simp [respondAcc, h]⟩
  | some a => exact .inl ⟨a, rfl, respondAcc_of_acc h⟩

/-- Everything `updateAcc` can answer. -/
theorem updateAcc_cases (s : State) (f : Word → Word) :
    (∃ a, s.acc? = some a ∧
        updateAcc s f = .next { s with accs := s.accs.set s.ctx (f a), rsp := some (f a) }) ∨
      (s.acc? = none ∧ updateAcc s f = .refused (.noContext s.ctx)) := by
  cases h : s.acc? with
  | none => exact .inr ⟨rfl, by simp [updateAcc, h]⟩
  | some a => exact .inl ⟨a, rfl, updateAcc_of_acc f h⟩

@[simp] theorem finishSum_ok (s : State) (c : Word) : finishSum s (.ok c) = updateAcc s fun _ => c := rfl

@[simp] theorem finishSum_error (s : State) (f : Fault) : finishSum s (.error f) = .fault f := rfl

/-- The admission check passes exactly on an admitted buffer. -/
theorem whenAdmitted_of_admitted {s : State} {addr : Addr} {len : Len}
    (h : Admitted s.mem addr.toNat len.toNat) (k : Host.Outcome State Fault Refusal) :
    whenAdmitted s addr len k = k := by
  simp [whenAdmitted, (admitted_iff_firstUnreadable _ _ _).1 h]

/-- Everything the admission check can answer. -/
theorem whenAdmitted_cases (s : State) (addr : Addr) (len : Len) (k : Host.Outcome State Fault Refusal) :
    (Admitted s.mem addr.toNat len.toNat ∧ whenAdmitted s addr len k = k) ∨
      (∃ a, s.mem.firstUnreadable addr.toNat len.toNat = some a ∧
        whenAdmitted s addr len k = .fault (.bufferFault a)) := by
  cases h : s.mem.firstUnreadable addr.toNat len.toNat with
  | none => exact .inl ⟨(admitted_iff_firstUnreadable _ _ _).2 h, by simp [whenAdmitted, h]⟩
  | some a => exact .inr ⟨a, rfl, by simp [whenAdmitted, h]⟩

@[simp] theorem whenAvailable_true {s : State} (h : s.cfg.hwavail = true) (k : Host.Outcome State Fault Refusal) :
    whenAvailable s k = k := by
  simp [whenAvailable, h]

@[simp] theorem whenAvailable_false {s : State} (h : s.cfg.hwavail = false) (k : Host.Outcome State Fault Refusal) :
    whenAvailable s k = .fault .hwUnavailable := by
  simp [whenAvailable, h]

/-- Everything the availability check can answer. -/
theorem whenAvailable_cases (s : State) (k : Host.Outcome State Fault Refusal) :
    (s.cfg.hwavail = true ∧ whenAvailable s k = k) ∨
      (s.cfg.hwavail = false ∧ whenAvailable s k = .fault .hwUnavailable) := by
  cases h : s.cfg.hwavail with
  | true => exact .inl ⟨rfl, whenAvailable_true h k⟩
  | false => exact .inr ⟨rfl, whenAvailable_false h k⟩

/-! ### The read and the steps of a buffer command -/

/-- A read of a readable buffer answers the little-endian value of its bytes. -/
theorem memRead_of_bufferHolds {w : Nat} {m : Memory} {a : Nat} {bs : List Byte} (hl : bs.length = w / 8)
    (h : BufferHolds m a bs) : memRead w m a = .ok (BitVec.ofNat w (leValue bs)) := by
  simp [memRead, (Memory.bytes_eq_some_iff m a (w / 8) bs).2 ⟨hl, h⟩]

@[simp] theorem runSteps_nil (m : Memory) (c : Word) : runSteps m c [] = .ok c := rfl

@[simp] theorem runSteps_cons (m : Memory) (c : Word) (x : ChunkStep) (xs : List ChunkStep) :
    runSteps m c (x :: xs) = (runStep m c x).bind fun c' => runSteps m c' xs := rfl

/-- Steps run one list after the other. -/
theorem runSteps_append (m : Memory) (c : Word) (xs ys : List ChunkStep) :
    runSteps m c (xs ++ ys) = (runSteps m c xs).bind fun c' => runSteps m c' ys := by
  induction xs generalizing c with
  | nil => rfl
  | cons x xs ih =>
    simp only [List.cons_append, runSteps_cons]
    cases runStep m c x with
    | error f => rfl
    | ok c' => exact ih c'

@[simp] theorem strided_zero (k : Nat) (body : Nat → List ChunkStep) (p : Nat) : strided k body p 0 = [] := rfl

@[simp] theorem strided_succ (k : Nat) (body : Nat → List ChunkStep) (p n : Nat) :
    strided k body p (n + 1) = body p ++ strided k body (p + k) n := rfl

/-! ### The single-byte update over a sequence -/

@[simp] theorem crcUpdate_nil (c : Word) : crcUpdate c [] = c := rfl

@[simp] theorem crcUpdate_cons (c : Word) (b : Byte) (s : List Byte) :
    crcUpdate c (b :: s) = crcUpdate (bytestep c b) s := rfl

/-- The result of a `bind` is a value exactly when both parts give one. -/
theorem except_bind_eq_ok {ε α β : Type} {x : Except ε α} {f : α → Except ε β} {b : β} :
    x.bind f = .ok b ↔ ∃ a, x = .ok a ∧ f a = .ok b := by
  cases x with
  | error e => simp [Except.bind]
  | ok a => simp [Except.bind]

end Sys2Proof.Machine
end

