-- ==== Sys2Proof/Laws/PerInstr.lean ====
section
/-!
SUPPORT. Facts of every command, one lemma for each constructor of `Instr`.
-/

namespace Sys2Proof.Laws.OpcodeFields

/-- The class a command belongs to: system, feedback step, table step, buffer command (spec/30_encoding.md R95). -/
def classOf : Instr → BitVec 2
  | .rdacc => 0#2
  | .ldacc _ => 0#2
  | .rdstat => 0#2
  | .wrctl _ => 0#2
  | .probe => 0#2
  | .fb8 _ => 1#2
  | .fb16 _ => 1#2
  | .fb64 _ => 1#2
  | .tbl8 _ => 2#2
  | .sb8 _ _ => 2#2
  | .cksum _ _ _ => 3#2
  | .hwsum _ _ _ => 3#2
  | .swsum _ _ _ => 3#2

/-- The opcode byte of the command's canonical packet: its field `zero` is `000`, its field `cls` names the class (R95). -/
def Statement (i : Instr) : Prop :=
  opZero (packetOp (encodePacket i)) = 0#3 ∧ opClass (packetOp (encodePacket i)) = classOf i

/-- What the statement comes down to: two fields of a byte. -/
theorem of_opcode {i : Instr} (op : Byte) (c : BitVec 2) (ho : opcodeOf i = op) (hc : classOf i = c)
    (h : opZero op = 0#3 ∧ opClass op = c) : Statement i := by
  rw [Statement, encodePacket, packetOp_packetOf, ho, hc]
  exact h

theorem rdacc : Statement .rdacc :=
  of_opcode 0x00#8 0#2 rfl rfl (by decide)

theorem ldacc (crc : Word) : Statement (.ldacc crc) :=
  of_opcode 0x01#8 0#2 rfl rfl (by decide)

theorem rdstat : Statement .rdstat :=
  of_opcode 0x02#8 0#2 rfl rfl (by decide)

theorem wrctl (fsw : Bool) : Statement (.wrctl fsw) :=
  of_opcode 0x03#8 0#2 rfl rfl (by decide)

theorem probe : Statement .probe :=
  of_opcode 0x04#8 0#2 rfl rfl (by decide)

theorem fb8 (d : BitVec 8) : Statement (.fb8 d) :=
  of_opcode 0x40#8 1#2 rfl rfl (by decide)

theorem fb16 (d : BitVec 16) : Statement (.fb16 d) :=
  of_opcode 0x41#8 1#2 rfl rfl (by decide)

theorem fb64 (d : BitVec 64) : Statement (.fb64 d) :=
  of_opcode 0x43#8 1#2 rfl rfl (by decide)

theorem tbl8 (d : BitVec 8) : Statement (.tbl8 d) :=
  of_opcode 0x80#8 2#2 rfl rfl (by decide)

theorem sb8 (w0 w1 : Word) : Statement (.sb8 w0 w1) :=
  of_opcode 0x83#8 2#2 rfl rfl (by decide)

theorem cksum (crc : Word) (addr : Addr) (len : Len) : Statement (.cksum crc addr len) :=
  of_opcode 0xC0#8 3#2 rfl rfl (by decide)

theorem hwsum (crc : Word) (addr : Addr) (len : Len) : Statement (.hwsum crc addr len) :=
  of_opcode 0xC1#8 3#2 rfl rfl (by decide)

theorem swsum (crc : Word) (addr : Addr) (len : Len) : Statement (.swsum crc addr len) :=
  of_opcode 0xC2#8 3#2 rfl rfl (by decide)

end Sys2Proof.Laws.OpcodeFields
end

