-- ==== Sys2Proof/Laws/Rom.lean ====
section
/-!
SUPPORT. The shape of the table ROM: the default values of `rom` are never read.
-/

namespace Sys2Proof.Machine

/-- Every table has 32 rows of 8 entries: 256 entries (spec/10_state.md R30). -/
theorem romRows_shape (k : Fin 8) : (romRows k).map List.length = List.replicate 32 8 := by
  revert k
  decide

/-- A read of the ROM is an entry of the listing. -/
theorem rom_eq_entry (k : Fin 8) (i : Byte) :
    ∃ row, (romRows k)[i.toNat / 8]? = some row ∧ row[i.toNat % 8]? = some (rom k i) := by
  have hi := i.isLt
  have hs := romRows_shape k
  have hl : (romRows k).length = 32 := by simpa using congrArg List.length hs
  have hr : i.toNat / 8 < (romRows k).length := by omega
  refine ⟨(romRows k)[i.toNat / 8], List.getElem?_eq_getElem hr, ?_⟩
  have h8 : ((romRows k)[i.toNat / 8]).length = 8 := by
    have h := congrArg (fun l => l[i.toNat / 8]?) hs
    simp only [List.getElem?_map, List.getElem?_eq_getElem hr, Option.map_some, List.getElem?_replicate] at h
    rw [if_pos (by omega)] at h
    exact Option.some.inj h
  simp only [rom, List.getD_eq_getElem?_getD, List.getElem?_eq_getElem hr, Option.getD_some]
  rw [List.getElem?_eq_getElem (by omega)]
  rfl

end Sys2Proof.Machine
end

