-- ==== Sys2Proof/Tests/Slice0.lean ====
section
/-!
SUPPORT. Small tests of single steps, with expected values from spec/95_test_vectors.md and the worked examples of spec/, and
for each statement with hypotheses a concrete case that meets them all.
-/

namespace Sys2Proof.Tests

open Sys2Proof.Machine

/-! ### Small states -/

/-- One context, `HWAVAIL` = `hw`, this memory, this `ACC`, the flags as after reset. -/
def engine (hw : Bool) (mem : Memory) (acc : Word) : State := State.afterReset ⟨hw, 1⟩ mem [acc] []

/-- Memory that lists these bytes from address `a` on. -/
def memoryAt (a : Nat) : List Byte → Memory
  | [] => []
  | b :: bs => (a, b) :: memoryAt (a + 1) bs

/-- The ASCII bytes "123456789" (spec/95_test_vectors.md S1). -/
def digits : List Byte := [0x31#8, 0x32#8, 0x33#8, 0x34#8, 0x35#8, 0x36#8, 0x37#8, 0x38#8, 0x39#8]

/-- The bytes `00 01 02 ...` (spec/95_test_vectors.md section 2.4). -/
def counting (n : Nat) : List Byte := (List.range n).map (BitVec.ofNat 8)

/-- The response, the accumulators and the status view of a next state. -/
def answer (o : Host.Outcome State Fault Refusal) : Option (Option Word × List Word × Word) :=
  match o with
  | .next t => some (t.rsp, t.accs, t.view)
  | .fault _ => none
  | .refused _ => none

/-- The fault a command ends in. -/
def faultOf (o : Host.Outcome State Fault Refusal) : Option Fault :=
  match o with
  | .next _ => none
  | .fault f => some f
  | .refused _ => none

/-- The refusal a step ends in. -/
def refusalOf (o : Host.Outcome State Fault Refusal) : Option Refusal :=
  match o with
  | .next _ => none
  | .fault _ => none
  | .refused r => some r

/-- What the decoder gives, if it gives a command. -/
def decoded (bytes : List Byte) : Option Instr := (decode bytes).toOption

/-! ### Well-formedness: an ill-formed line for each check (R103) -/

theorem test_illformed_ldacc : lineWellFormed (.command (.ldacc (2 ^ 32))) = false ∧ assemble (.command (.ldacc (2 ^ 32))) = none := by decide

theorem test_illformed_wrctl : lineWellFormed (.command (.wrctl 2)) = false ∧ assemble (.command (.wrctl 2)) = none := by decide

theorem test_illformed_fb8 : lineWellFormed (.command (.fb8 0x100)) = false ∧ assemble (.command (.fb8 0x100)) = none := by decide

theorem test_illformed_fb16 : lineWellFormed (.command (.fb16 0x10000)) = false ∧ assemble (.command (.fb16 0x10000)) = none := by decide

theorem test_illformed_fb64 : lineWellFormed (.command (.fb64 (2 ^ 64))) = false ∧ assemble (.command (.fb64 (2 ^ 64))) = none := by decide

theorem test_illformed_tbl8 : lineWellFormed (.command (.tbl8 0x100)) = false ∧ assemble (.command (.tbl8 0x100)) = none := by decide

theorem test_illformed_sb8 : lineWellFormed (.command (.sb8 (2 ^ 64))) = false ∧ assemble (.command (.sb8 (2 ^ 64))) = none := by decide

theorem test_illformed_sb8_first_word : lineWellFormed (.pseudo (.sb8Words (2 ^ 32) 0)) = false ∧ assemble (.pseudo (.sb8Words (2 ^ 32) 0)) = none := by decide

theorem test_illformed_sb8_second_word : lineWellFormed (.pseudo (.sb8Words 0 (2 ^ 32))) = false ∧ assemble (.pseudo (.sb8Words 0 (2 ^ 32))) = none := by decide

theorem test_illformed_cksum_crc : lineWellFormed (.command (.cksum (2 ^ 32) 0 0)) = false ∧ assemble (.command (.cksum (2 ^ 32) 0 0)) = none := by decide

theorem test_illformed_cksum_addr : lineWellFormed (.command (.cksum 0 (2 ^ 64) 0)) = false ∧ assemble (.command (.cksum 0 (2 ^ 64) 0)) = none := by decide

theorem test_illformed_hwsum_len : lineWellFormed (.command (.hwsum 0 0 (2 ^ 64))) = false ∧ assemble (.command (.hwsum 0 0 (2 ^ 64))) = none := by decide

theorem test_illformed_swsum_crc : lineWellFormed (.command (.swsum (2 ^ 32) 0 0)) = false ∧ assemble (.command (.swsum (2 ^ 32) 0 0)) = none := by decide

theorem test_wellformed_cksum_top : lineWellFormed (.command (.cksum (2 ^ 32 - 1) (2 ^ 64 - 1) (2 ^ 64 - 1))) = true := by decide

/-! ### Decoding: the packets of spec/95_test_vectors.md section 2.9, written out -/

theorem test_decode_rdacc : decoded
    [0x00#8, 0x00#8, 0x00#8, 0x00#8, 0x00#8, 0x00#8, 0x00#8, 0x00#8, 0x00#8, 0x00#8, 0x00#8,
    0x00#8, 0x00#8, 0x00#8, 0x00#8, 0x00#8, 0x00#8, 0x00#8, 0x00#8, 0x00#8, 0x00#8] = some .rdacc ∧
    encode .rdacc =
    [0x00#8, 0x00#8, 0x00#8, 0x00#8, 0x00#8, 0x00#8, 0x00#8, 0x00#8, 0x00#8, 0x00#8, 0x00#8,
    0x00#8, 0x00#8, 0x00#8, 0x00#8, 0x00#8, 0x00#8, 0x00#8, 0x00#8, 0x00#8, 0x00#8] := by decide

theorem test_decode_ldacc : decoded
    [0x01#8, 0xFF#8, 0xFF#8, 0xFF#8, 0xFF#8, 0x00#8, 0x00#8, 0x00#8, 0x00#8, 0x00#8, 0x00#8,
    0x00#8, 0x00#8, 0x00#8, 0x00#8, 0x00#8, 0x00#8, 0x00#8, 0x00#8, 0x00#8, 0x00#8] = some (.ldacc 0xFFFFFFFF#32) ∧
    encode (.ldacc 0xFFFFFFFF#32) =
    [0x01#8, 0xFF#8, 0xFF#8, 0xFF#8, 0xFF#8, 0x00#8, 0x00#8, 0x00#8, 0x00#8, 0x00#8, 0x00#8,
    0x00#8, 0x00#8, 0x00#8, 0x00#8, 0x00#8, 0x00#8, 0x00#8, 0x00#8, 0x00#8, 0x00#8] := by decide

theorem test_decode_rdstat : decoded
    [0x02#8, 0x00#8, 0x00#8, 0x00#8, 0x00#8, 0x00#8, 0x00#8, 0x00#8, 0x00#8, 0x00#8, 0x00#8,
    0x00#8, 0x00#8, 0x00#8, 0x00#8, 0x00#8, 0x00#8, 0x00#8, 0x00#8, 0x00#8, 0x00#8] = some .rdstat ∧
    encode .rdstat =
    [0x02#8, 0x00#8, 0x00#8, 0x00#8, 0x00#8, 0x00#8, 0x00#8, 0x00#8, 0x00#8, 0x00#8, 0x00#8,
    0x00#8, 0x00#8, 0x00#8, 0x00#8, 0x00#8, 0x00#8, 0x00#8, 0x00#8, 0x00#8, 0x00#8] := by decide

theorem test_decode_wrctl : decoded
    [0x03#8, 0x00#8, 0x00#8, 0x00#8, 0x00#8, 0x01#8, 0x00#8, 0x00#8, 0x00#8, 0x00#8, 0x00#8,
    0x00#8, 0x00#8, 0x00#8, 0x00#8, 0x00#8, 0x00#8, 0x00#8, 0x00#8, 0x00#8, 0x00#8] = some (.wrctl true) ∧
    encode (.wrctl true) =
    [0x03#8, 0x00#8, 0x00#8, 0x00#8, 0x00#8, 0x01#8, 0x00#8, 0x00#8, 0x00#8, 0x00#8, 0x00#8,
    0x00#8, 0x00#8, 0x00#8, 0x00#8, 0x00#8, 0x00#8, 0x00#8, 0x00#8, 0x00#8, 0x00#8] := by decide

theorem test_decode_probe : decoded
    [0x04#8, 0x00#8, 0x00#8, 0x00#8, 0x00#8, 0x00#8, 0x00#8, 0x00#8, 0x00#8, 0x00#8, 0x00#8,
    0x00#8, 0x00#8, 0x00#8, 0x00#8, 0x00#8, 0x00#8, 0x00#8, 0x00#8, 0x00#8, 0x00#8] = some .probe ∧
    encode .probe =
    [0x04#8, 0x00#8, 0x00#8, 0x00#8, 0x00#8, 0x00#8, 0x00#8, 0x00#8, 0x00#8, 0x00#8, 0x00#8,
    0x00#8, 0x00#8, 0x00#8, 0x00#8, 0x00#8, 0x00#8, 0x00#8, 0x00#8, 0x00#8, 0x00#8] := by decide

theorem test_decode_fb8 : decoded
    [0x40#8, 0x00#8, 0x00#8, 0x00#8, 0x00#8, 0x39#8, 0x00#8, 0x00#8, 0x00#8, 0x00#8, 0x00#8,
    0x00#8, 0x00#8, 0x00#8, 0x00#8, 0x00#8, 0x00#8, 0x00#8, 0x00#8, 0x00#8, 0x00#8] = some (.fb8 0x39#8) ∧
    encode (.fb8 0x39#8) =
    [0x40#8, 0x00#8, 0x00#8, 0x00#8, 0x00#8, 0x39#8, 0x00#8, 0x00#8, 0x00#8, 0x00#8, 0x00#8,
    0x00#8, 0x00#8, 0x00#8, 0x00#8, 0x00#8, 0x00#8, 0x00#8, 0x00#8, 0x00#8, 0x00#8] := by decide

theorem test_decode_fb16 : decoded
    [0x41#8, 0x00#8, 0x00#8, 0x00#8, 0x00#8, 0x31#8, 0x32#8, 0x00#8, 0x00#8, 0x00#8, 0x00#8,
    0x00#8, 0x00#8, 0x00#8, 0x00#8, 0x00#8, 0x00#8, 0x00#8, 0x00#8, 0x00#8, 0x00#8] = some (.fb16 0x3231#16) ∧
    encode (.fb16 0x3231#16) =
    [0x41#8, 0x00#8, 0x00#8, 0x00#8, 0x00#8, 0x31#8, 0x32#8, 0x00#8, 0x00#8, 0x00#8, 0x00#8,
    0x00#8, 0x00#8, 0x00#8, 0x00#8, 0x00#8, 0x00#8, 0x00#8, 0x00#8, 0x00#8, 0x00#8] := by decide

theorem test_decode_fb64 : decoded
    [0x43#8, 0x00#8, 0x00#8, 0x00#8, 0x00#8, 0x31#8, 0x32#8, 0x33#8, 0x34#8, 0x35#8, 0x36#8,
    0x37#8, 0x38#8, 0x00#8, 0x00#8, 0x00#8, 0x00#8, 0x00#8, 0x00#8, 0x00#8, 0x00#8] = some (.fb64 0x3837363534333231#64) ∧
    encode (.fb64 0x3837363534333231#64) =
    [0x43#8, 0x00#8, 0x00#8, 0x00#8, 0x00#8, 0x31#8, 0x32#8, 0x33#8, 0x34#8, 0x35#8, 0x36#8,
    0x37#8, 0x38#8, 0x00#8, 0x00#8, 0x00#8, 0x00#8, 0x00#8, 0x00#8, 0x00#8, 0x00#8] := by decide

theorem test_decode_tbl8 : decoded
    [0x80#8, 0x00#8, 0x00#8, 0x00#8, 0x00#8, 0x31#8, 0x00#8, 0x00#8, 0x00#8, 0x00#8, 0x00#8,
    0x00#8, 0x00#8, 0x00#8, 0x00#8, 0x00#8, 0x00#8, 0x00#8, 0x00#8, 0x00#8, 0x00#8] = some (.tbl8 0x31#8) ∧
    encode (.tbl8 0x31#8) =
    [0x80#8, 0x00#8, 0x00#8, 0x00#8, 0x00#8, 0x31#8, 0x00#8, 0x00#8, 0x00#8, 0x00#8, 0x00#8,
    0x00#8, 0x00#8, 0x00#8, 0x00#8, 0x00#8, 0x00#8, 0x00#8, 0x00#8, 0x00#8, 0x00#8] := by decide

theorem test_decode_sb8 : decoded
    [0x83#8, 0x00#8, 0x00#8, 0x00#8, 0x00#8, 0x32#8, 0x33#8, 0x34#8, 0x35#8, 0x36#8, 0x37#8,
    0x38#8, 0x39#8, 0x00#8, 0x00#8, 0x00#8, 0x00#8, 0x00#8, 0x00#8, 0x00#8, 0x00#8] = some (.sb8 0x35343332#32 0x39383736#32) ∧
    encode (.sb8 0x35343332#32 0x39383736#32) =
    [0x83#8, 0x00#8, 0x00#8, 0x00#8, 0x00#8, 0x32#8, 0x33#8, 0x34#8, 0x35#8, 0x36#8, 0x37#8,
    0x38#8, 0x39#8, 0x00#8, 0x00#8, 0x00#8, 0x00#8, 0x00#8, 0x00#8, 0x00#8, 0x00#8] := by decide

theorem test_decode_cksum : decoded
    [0xC0#8, 0x00#8, 0x00#8, 0x00#8, 0x00#8, 0x01#8, 0x10#8, 0x00#8, 0x00#8, 0x00#8, 0x00#8,
    0x00#8, 0x00#8, 0x09#8, 0x00#8, 0x00#8, 0x00#8, 0x00#8, 0x00#8, 0x00#8, 0x00#8] = some (.cksum 0#32 0x1001#64 9#64) ∧
    encode (.cksum 0#32 0x1001#64 9#64) =
    [0xC0#8, 0x00#8, 0x00#8, 0x00#8, 0x00#8, 0x01#8, 0x10#8, 0x00#8, 0x00#8, 0x00#8, 0x00#8,
    0x00#8, 0x00#8, 0x09#8, 0x00#8, 0x00#8, 0x00#8, 0x00#8, 0x00#8, 0x00#8, 0x00#8] := by decide

theorem test_decode_hwsum : decoded
    [0xC1#8, 0xEF#8, 0xBE#8, 0xAD#8, 0xDE#8, 0x03#8, 0x20#8, 0x00#8, 0x00#8, 0x00#8, 0x00#8,
    0x00#8, 0x00#8, 0x21#8, 0x00#8, 0x00#8, 0x00#8, 0x00#8, 0x00#8, 0x00#8, 0x00#8] = some (.hwsum 0xDEADBEEF#32 0x2003#64 33#64) ∧
    encode (.hwsum 0xDEADBEEF#32 0x2003#64 33#64) =
    [0xC1#8, 0xEF#8, 0xBE#8, 0xAD#8, 0xDE#8, 0x03#8, 0x20#8, 0x00#8, 0x00#8, 0x00#8, 0x00#8,
    0x00#8, 0x00#8, 0x21#8, 0x00#8, 0x00#8, 0x00#8, 0x00#8, 0x00#8, 0x00#8, 0x00#8] := by decide

theorem test_decode_swsum : decoded
    [0xC2#8, 0xEF#8, 0xBE#8, 0xAD#8, 0xDE#8, 0x03#8, 0x20#8, 0x00#8, 0x00#8, 0x00#8, 0x00#8,
    0x00#8, 0x00#8, 0x21#8, 0x00#8, 0x00#8, 0x00#8, 0x00#8, 0x00#8, 0x00#8, 0x00#8] = some (.swsum 0xDEADBEEF#32 0x2003#64 33#64) ∧
    encode (.swsum 0xDEADBEEF#32 0x2003#64 33#64) =
    [0xC2#8, 0xEF#8, 0xBE#8, 0xAD#8, 0xDE#8, 0x03#8, 0x20#8, 0x00#8, 0x00#8, 0x00#8, 0x00#8,
    0x00#8, 0x00#8, 0x21#8, 0x00#8, 0x00#8, 0x00#8, 0x00#8, 0x00#8, 0x00#8, 0x00#8] := by decide

/-- section 2.8, the packet of the wrapping command -/
theorem test_decode_wrapping_cksum : decoded
    [0xC0#8, 0x05#8, 0x00#8, 0x00#8, 0x00#8, 0xF8#8, 0xFF#8, 0xFF#8, 0xFF#8, 0xFF#8, 0xFF#8, 0xFF#8, 0xFF#8,
    0x10#8, 0x00#8, 0x00#8, 0x00#8, 0x00#8, 0x00#8, 0x00#8, 0x00#8] =
    some (.cksum 5#32 0xFFFFFFFFFFFFFFF8#64 16#64) := by decide

/-- section 2.1: bit 0 of `arg` clear, junk elsewhere -/
theorem test_decode_ignored_bits : decodeTableWord 168 0xFFFFFFFFFFFFFFFFFFFFFFFFFFFFFFFE0000000003 = some (.wrctl false) := by decide

theorem test_decode_short : (decode [0x00#8]).toOption = none := by decide

/-- section 2.8 -/
theorem test_reserved_42 : refusalOf (step ((engine false [] 0x11111111#32).withFetchWord 168 0x42)) = some (.reservedCommand 0x42#8) := by decide

/-- section 2.8 -/
theorem test_reserved_08 : refusalOf (step ((engine false [] 0x11111111#32).withFetchWord 168 0x08)) = some (.reservedCommand 0x08#8) := by decide

/-- section 2.8 -/
theorem test_reserved_ff : refusalOf (step ((engine false [] 0x11111111#32).withFetchWord 168 0xFF)) = some (.reservedCommand 0xFF#8) := by decide

/-- section 2.8 -/
theorem test_reserved_c3 : refusalOf (step ((engine false [] 0x11111111#32).withFetchWord 168 0xC3)) = some (.reservedCommand 0xC3#8) := by decide

/-! ### The host's view of the table: each row runs as the first command after reset -/

theorem test_first_rdacc : answer (step (State.reset.withFetchWord 168 0x00)) = some (some 0#32, [0#32], 0#32) := by decide

theorem test_first_ldacc : answer (step (State.reset.withFetchWord 168 0x01)) = some (some 0#32, [0#32], 0#32) := by decide

theorem test_first_rdstat : answer (step (State.reset.withFetchWord 168 0x02)) = some (some 0#32, [0#32], 0#32) := by decide

theorem test_first_wrctl : answer (step (State.reset.withFetchWord 168 0x03)) = some (some 0#32, [0#32], 0#32) := by decide

theorem test_first_probe : answer (step (State.reset.withFetchWord 168 0x04)) = some (some 1#32, [0#32], 0#32) := by decide

theorem test_first_fb8 : answer (step (State.reset.withFetchWord 168 0x40)) = some (some 0#32, [0#32], 0#32) := by decide

theorem test_first_fb16 : answer (step (State.reset.withFetchWord 168 0x41)) = some (some 0#32, [0#32], 0#32) := by decide

theorem test_first_fb64 : answer (step (State.reset.withFetchWord 168 0x43)) = some (some 0#32, [0#32], 0#32) := by decide +kernel

theorem test_first_tbl8 : answer (step (State.reset.withFetchWord 168 0x80)) = some (some 0#32, [0#32], 0#32) := by decide

theorem test_first_sb8 : answer (step (State.reset.withFetchWord 168 0x83)) = some (some 0#32, [0#32], 0#32) := by decide

theorem test_first_cksum : answer (step (State.reset.withFetchWord 168 0xC0)) = some (some 0#32, [0#32], 3#32) := by decide

theorem test_first_hwsum : answer (step (State.reset.withFetchWord 168 0xC1)) = some (some 0#32, [0#32], 0#32) := by decide

theorem test_first_swsum : answer (step (State.reset.withFetchWord 168 0xC2)) = some (some 0#32, [0#32], 0#32) := by decide

/-! ### Register and gate commands (section 2.1) -/

theorem test_rdacc : answer (exec .rdacc (engine false [] 0x58E3FA20#32)) = some (some 0x58E3FA20#32, [0x58E3FA20#32], 0#32) := by decide

theorem test_ldacc : answer (exec (.ldacc 0xFFFFFFFF#32) (engine false [] 1#32)) = some (some 0xFFFFFFFF#32, [0xFFFFFFFF#32], 0#32) := by decide

theorem test_rdstat_fixed : answer (exec .rdstat { engine true [] 1#32 with capv := true, capf := true }) = some (some 3#32, [1#32], 3#32) := by decide

theorem test_rdstat_forced : answer (exec .rdstat { engine false [] 1#32 with capv := true, fsw := true }) = some (some 5#32, [1#32], 5#32) := by decide

theorem test_wrctl_on : answer (exec (.wrctl true) (engine true [] 1#32)) = some (some 4#32, [1#32], 4#32) := by decide

theorem test_wrctl_off : answer (exec (.wrctl false) { engine true [] 1#32 with capv := true, capf := true, fsw := true }) = some (some 3#32, [1#32], 3#32) := by decide

theorem test_probe_available : answer (exec .probe { engine true [] 7#32 with fsw := true }) = some (some 1#32, [7#32], 4#32) := by decide

theorem test_probe_absent : answer (exec .probe (engine false [] 7#32)) = some (some 0#32, [7#32], 0#32) := by decide

/-! ### Feedback and table steps (sections 2.2, 2.3) -/

theorem test_fb8 : answer (exec (.fb8 0xA5#8) (engine true [] 0xDEADBEEF#32)) = some (some 0x2A47983A#32, [0x2A47983A#32], 0#32) := by decide +kernel

theorem test_fb8_polynomial : answer (exec (.fb8 0x00#8) (engine true [] 0x00000080#32)) = some (some 0x82F63B78#32, [0x82F63B78#32], 0#32) := by decide +kernel

theorem test_fb16 : answer (exec (.fb16 0xBBAA#16) (engine true [] 0xDEADBEEF#32)) = some (some 0x97CEF51E#32, [0x97CEF51E#32], 0#32) := by decide +kernel

theorem test_fb16_zero_acc : answer (exec (.fb16 0x3231#16) (engine true [] 0x00000000#32)) = some (some 0x8234B3B2#32, [0x8234B3B2#32], 0#32) := by decide +kernel

theorem test_fb64 : answer (exec (.fb64 0x0807060504030201#64) (engine true [] 0xDEADBEEF#32)) = some (some 0x1989D395#32, [0x1989D395#32], 0#32) := by decide +kernel

theorem test_fb64_last_byte : answer (exec (.fb64 0x0100000000000000#64) (engine true [] 0x00000000#32)) = some (some 0xF26B8303#32, [0xF26B8303#32], 0#32) := by decide +kernel

theorem test_tbl8 : answer (exec (.tbl8 0xA5#8) (engine false [] 0xDEADBEEF#32)) = some (some 0x2A47983A#32, [0x2A47983A#32], 0#32) := by decide +kernel

theorem test_tbl8_logical_shift : answer (exec (.tbl8 0x00#8) (engine false [] 0xFFFFFFFF#32)) = some (some 0xAD82ACAE#32, [0xAD82ACAE#32], 0#32) := by decide +kernel

theorem test_sb8 : answer (exec (.sb8 0x04030201#32 0x08070605#32) (engine false [] 0xDEADBEEF#32)) = some (some 0x1989D395#32, [0x1989D395#32], 0#32) := by decide +kernel

theorem test_sb8_first_byte_of_w1 : answer (exec (.sb8 0x00000000#32 0x00000001#32) (engine false [] 0x00000000#32)) = some (some 0xDD45AAB8#32, [0xDD45AAB8#32], 0#32) := by decide +kernel

/-- section 2.2, single-bit level -/
theorem test_bitstep : bitstep 1#32 false = 0x82F63B78#32 ∧ bitstep 0#32 true = 0x82F63B78#32 ∧ bitstep 1#32 true = 0#32 ∧
    bitstep 0x80000000#32 false = 0x40000000#32 := by decide

theorem test_fb8_unavailable : faultOf (exec (.fb8 0x00#8) (engine false [] 0x11111111#32)) = some .hwUnavailable := by decide

theorem test_fb16_unavailable : faultOf (exec (.fb16 0x0000#16) (engine false [] 0x11111111#32)) = some .hwUnavailable := by decide

theorem test_fb64_unavailable : faultOf (exec (.fb64 0#64) (engine false [] 0x11111111#32)) = some .hwUnavailable := by decide

/-! ### Buffer commands (sections 2.4, 2.6, 2.8) -/

theorem test_hwsum_33 : answer (exec (.hwsum 0xDEADBEEF#32 0x2003#64 33#64) (engine true (memoryAt 0x2003 (counting 33)) 0#32)) =
    some (some 0x3CE29E2B#32, [0x3CE29E2B#32], 0#32) := by decide +kernel

theorem test_swsum_33 : answer (exec (.swsum 0xDEADBEEF#32 0x2003#64 33#64) (engine false (memoryAt 0x2003 (counting 33)) 0#32)) =
    some (some 0x3CE29E2B#32, [0x3CE29E2B#32], 0#32) := by decide +kernel

/-- S6 -/
theorem test_swsum_aligned : answer (exec (.swsum 0#32 0x1000#64 9#64) (engine false (memoryAt 0x1000 digits) 0#32)) =
    some (some 0x58E3FA20#32, [0x58E3FA20#32], 0#32) := by decide +kernel

theorem test_cksum_hardware : answer (exec (.cksum 0#32 0x1001#64 9#64) (engine true (memoryAt 0x1001 digits) 0#32)) =
    some (some 0x58E3FA20#32, [0x58E3FA20#32], 3#32) := by decide +kernel

/-- S1b; the cache is filled although `FSW` is 1 -/
theorem test_cksum_forced_software : answer (exec (.cksum 0xFFFFFFFF#32 0x1001#64 9#64) { engine false (memoryAt 0x1001 digits) 0#32 with fsw := true }) =
    some (some 0x1CF96D7C#32, [0x1CF96D7C#32], 5#32) := by decide +kernel

/-- the table of spec/41_hardware_path.md R148 -/
theorem test_cut_hwsum_31 : (hwSteps 0x1001 31).length = 7 ∧ (hwSteps 0x1001 33).length = 5 := by decide

/-- the table of spec/42_software_path.md R168 -/
theorem test_cut_swsum_9 : swSteps 0x1003 9 = [.table8 0x1003, .slice8 0x1004] ∧ (swSteps 0x1001 9).length = 9 := by decide

theorem test_swsum_fault_past_end : faultOf (exec (.swsum 0#32 0x1000#64 9#64) (engine false (memoryAt 0x1000 (List.replicate 8 0#8)) 1#32)) =
    some (.bufferFault 0x1008) := by decide +kernel

theorem test_swsum_fault_before_start : faultOf (exec (.swsum 0#32 0x0FFF#64 2#64) (engine false (memoryAt 0x1000 (List.replicate 8 0#8)) 1#32)) =
    some (.bufferFault 0x0FFF) := by decide +kernel

theorem test_cksum_fault_wrap : faultOf (exec (.cksum 5#32 0xFFFFFFFFFFFFFFF8#64 16#64) (engine false [] 1#32)) =
    some (.bufferFault 0xFFFFFFFFFFFFFFF8) := by decide

theorem test_cksum_zero_length_anywhere : answer (exec (.cksum 5#32 0xFFFFFFFFFFFFFFF8#64 0#64) (engine false [] 1#32)) =
    some (some 5#32, [5#32], 1#32) := by decide

theorem test_hwsum_unavailable_first : faultOf (exec (.hwsum 0#32 0x2000#64 8#64) (engine false [] 1#32)) = some .hwUnavailable := by decide

/-! ### Events of the outside, and several contexts -/

theorem test_idle : answer (step (engine true [] 9#32)) = some (none, [9#32], 0#32) := by decide

theorem test_reset_event : ((answer (step { engine true [] 9#32 with capv := true, capf := true, fsw := true, inputs := [.reset] })).map
    fun r => (r.1, r.2.1.length, r.2.2)) = some (none, 1, 0#32) := by decide

theorem test_platform_event : (match step { engine true (memoryAt 5 [1#8, 2#8]) 9#32 with inputs := [.platform 5#64 none] } with
    | .next t => some t.mem
    | .fault _ => none
    | .refused _ => none) = some [(6, 2#8)] := by decide

theorem test_second_context_own_acc : answer (step { engine true [] 9#32 with cfg := ⟨true, 2⟩, accs := [9#32, 8#32], inputs := [.command 1 0x01#168] }) =
    some (some 0#32, [9#32, 0#32], 0#32) := by decide

theorem test_absent_context : refusalOf (step { engine true [] 9#32 with inputs := [.command 1 0x00#168] }) = some (.noContext 1) := by decide

/-! ### The assembler's text (R103, R104) -/

/-- spec/30_encoding.md R105 -/
theorem test_text_cksum : assembleText? "CKSUM 0x00000000, 0x1001, 9 ; worked encoding" =
    some [0x0000000000000009000000000000100100000000C0#168] := by decide

/-- P5, P3 -/
theorem test_text_pseudo : assembleProgram? ["CLRACC", "; feed", "SB8 0x35343332, 0x39383736", "FSWON"] =
    some [0x01#168, 0x39383736353433320000000083#168, 0x010000000003#168] := by decide

theorem test_text_does_not_fit : assembleText? "FB8 0x100" = none ∧ assembleText? "FB32 1" = none := by decide

/-! ### A case that meets the hypotheses of each statement that has some -/

/-- "123456789" at `0x1001` (program P2 of spec/95_test_vectors.md). -/
def digitsAt : Memory := memoryAt 0x1001 digits

theorem digitsAt_holds : BufferHolds digitsAt 0x1001 digits := by unfold BufferHolds; decide

theorem digitsAt_holds_first : BufferHolds digitsAt 0x1001 (digits.take 4) := by unfold BufferHolds; decide

theorem digitsAt_holds_second : BufferHolds digitsAt 0x1005 (digits.drop 4) := by unfold BufferHolds; decide

/-- A buffer at the very top of the address space. -/
theorem top_holds : BufferHolds (memoryAt (2 ^ 64 - 2) [1#8, 2#8]) (2 ^ 64 - 2) [1#8, 2#8] := by unfold BufferHolds; decide

theorem witness_RomFollowsGeneratorAndRecurrence : (0 + 1 < 8) ∧ (6 + 1 < 8) := by decide

theorem witness_FeedbackIsLinearAndBijective : (0 ≤ 32) ∧ (32 ≤ 32) := by decide

/-- Two addresses of one buffer; its two parts and the whole; and the split at the empty prefix. -/
theorem witness_ChecksumLawsOfBothPaths :
    (BufferHolds digitsAt 0x1001 digits ∧ BufferHolds (memoryAt 0 digits) 0 digits) ∧
    (BufferHolds digitsAt 0x1001 (digits.take 4) ∧ BufferHolds digitsAt 0x1005 (digits.drop 4) ∧
      BufferHolds digitsAt 0x1001 (digits.take 4 ++ digits.drop 4)) ∧
    (BufferHolds digitsAt 0 [] ∧ BufferHolds digitsAt 0x1001 digits ∧ BufferHolds digitsAt 0x1001 ([] ++ digits)) :=
  ⟨⟨digitsAt_holds, by unfold BufferHolds; decide⟩, ⟨digitsAt_holds_first, digitsAt_holds_second, digitsAt_holds⟩,
    ⟨by unfold BufferHolds; decide, digitsAt_holds, digitsAt_holds⟩⟩

theorem witness_BothPathsEqualCrcUpdate : BufferHolds digitsAt 0x1001 digits ∧ BufferHolds [] 0 [] ∧
    BufferHolds (memoryAt (2 ^ 64 - 2) [1#8, 2#8]) (2 ^ 64 - 2) [1#8, 2#8] :=
  ⟨digitsAt_holds, by unfold BufferHolds; decide, top_holds⟩

/-- One case for each width and for each clause: eight bytes at an odd address, the two at the top, one missing at the end, one
past the top. -/
theorem witness_MemReadIsLittleEndianOrFaults :
    8 ∈ [1, 2, 4, 8] ∧ 4 ∈ [1, 2, 4, 8] ∧ 2 ∈ [1, 2, 4, 8] ∧ 1 ∈ [1, 2, 4, 8] ∧
    BufferHolds digitsAt 0x1001 (digits.take 8) ∧
    BufferHolds (memoryAt (2 ^ 64 - 2) [1#8, 2#8]) (2 ^ 64 - 2) [1#8, 2#8] ∧
    digitsAt.byte? (0x1003 + 7) = none ∧ (memoryAt (2 ^ 64 - 2) [1#8, 2#8]).byte? (2 ^ 64 - 1 + 1) = none :=
  ⟨by decide, by decide, by decide, by decide, by unfold BufferHolds; decide, top_holds, by decide, by decide⟩

theorem witness_WordReadsAreAligned : (0x1004, 4) ∈ (swSteps 0x1003 9).flatMap stepReads := by decide

theorem witness_PacketLayout : (0 < 8 ∧ 7 < 8) ∧ (31 < 32) ∧ (63 < 64) ∧ (List.replicate 20 0#8).length ≠ 21 ∧
    (List.replicate 22 0#8).length ≠ 21 := by decide

/-- Each clause of the decoder's statement has a packet, and so has the last one. -/
theorem witness_DecoderComparesTheWholeOpcode :
    (∀ op ∈ definedOpcodes, packetOp (op.setWidth 168) = op) ∧ packetOp (0x42#168) ∉ definedOpcodes ∧
      packetOp (0x08#168) ∉ definedOpcodes := by decide

theorem witness_EncodeOfDecodeClearsIgnoredBits :
    decodeTableWord 168 0xFF0000000003 = some (.wrctl true) ∧ decodePacket 0xFF0000000003#168 = .ok (.wrctl true) :=
  ⟨by decide, rfl⟩

theorem witness_IgnoredBitsAreIgnored :
    decodePacket 0xFF0000000003#168 = .ok (.wrctl true) ∧
    0xFF0000000003#168 &&& usedMask (.wrctl true) = 0x010000000003#168 &&& usedMask (.wrctl true) ∧
    packetOp 0xFF0000000003#168 ∈ definedOpcodes := ⟨rfl, by decide, by decide⟩

/-- A state at whose port context 0 presents this packet. -/
def presented (hw : Bool) (p : Packet) : State := { engine hw digitsAt 5#32 with inputs := [.command 0 p] }

theorem witness_ReservedOpcodesAreRefused :
    (presented true 0x42#168).inputs = .command 0 0x42#168 :: [] ∧ 0 < (presented true 0x42#168).accs.length ∧
    packetOp 0x42#168 ∉ definedOpcodes := by decide

theorem witness_PseudoInstructionsExpand : 0x35343332 < 2 ^ 32 ∧ 2 ^ 32 - 1 < 2 ^ 32 := by decide

/-- The requester's accumulator exists, on an engine with and one without the feedback network: what the statements about
`RDACC`, `LDACC`, the steps and the buffer commands ask for; context 1 of 2 is the boundary. -/
theorem witness_accumulator_exists :
    (engine true digitsAt 5#32).accs[(engine true digitsAt 5#32).ctx]? = some 5#32 ∧
    (engine false digitsAt 5#32).accs[(engine false digitsAt 5#32).ctx]? = some 5#32 ∧
    ({ engine true [] 5#32 with accs := [5#32, 6#32], ctx := 1 } : State).accs[1]? = some 6#32 := by decide

theorem witness_RdaccAnswersAcc :
    packetOp 0xFFFFFF00#168 = 0x00#8 ∧ (engine true [] 5#32).accs[(engine true [] 5#32).ctx]? = some 5#32 := by decide

theorem witness_LdaccLoadsAcc :
    packetOp 0xFFFFFF01#168 = 0x01#8 ∧ (engine true [] 5#32).accs[(engine true [] 5#32).ctx]? = some 5#32 := by decide

theorem witness_RdstatAnswersStatusView :
    packetOp 0xFFFFFF02#168 = 0x02#8 ∧ (3 ≤ 3) ∧ (3 ≤ 31) ∧
    ((engine true [] 5#32).capv = false → (engine true [] 5#32).capf = false) := by decide

theorem witness_WrctlWritesOverride : packetOp 0xFFFFFF03#168 = 0x03#8 := by decide

theorem witness_ProbeAnswersGate :
    packetOp 0xFFFFFF04#168 = 0x04#8 ∧ ∃ t, exec .probe (engine false [] 5#32) = .next t := ⟨by decide, _, rfl⟩

theorem witness_FeedbackCommandsStepAcc :
    (engine true [] 5#32).cfg.hwavail = true ∧ (engine true [] 5#32).accs[(engine true [] 5#32).ctx]? = some 5#32 := by decide

theorem witness_TableCommandsStepAcc :
    (engine false [] 5#32).accs[(engine false [] 5#32).ctx]? = some 5#32 := by decide

theorem witness_HwsumAnswersCrcUpdate :
    (engine true digitsAt 5#32).cfg.hwavail = true ∧
    (engine true digitsAt 5#32).accs[(engine true digitsAt 5#32).ctx]? = some 5#32 ∧ digits.length = (9#64).toNat ∧
    BufferHolds (engine true digitsAt 5#32).mem (0x1001#64).toNat digits :=
  ⟨rfl, rfl, rfl, digitsAt_holds⟩

theorem witness_SwsumAnswersCrcUpdate :
    (engine false digitsAt 5#32).accs[(engine false digitsAt 5#32).ctx]? = some 5#32 ∧ digits.length = (9#64).toNat ∧
    BufferHolds (engine false digitsAt 5#32).mem (0x1001#64).toNat digits :=
  ⟨rfl, rfl, digitsAt_holds⟩

/-- The cache unset, and the cache set. -/
theorem witness_CksumAnswersCrcUpdateAndFillsCache :
    (engine false digitsAt 5#32).accs[(engine false digitsAt 5#32).ctx]? = some 5#32 ∧ digits.length = (9#64).toNat ∧
    BufferHolds (engine false digitsAt 5#32).mem (0x1001#64).toNat digits ∧ (engine false digitsAt 5#32).capv = false ∧
    ({ engine true digitsAt 5#32 with capv := true, capf := true } : State).capv = true :=
  ⟨rfl, rfl, digitsAt_holds, rfl, rfl⟩

theorem witness_FeedbackNeedsHardware : (engine false [] 5#32).cfg.hwavail = false := rfl

/-- The first byte missing, the last byte missing, and the wrap at the top, each with all before it readable. -/
theorem witness_BufferFaultAtFirstUnreadableByte :
    (digitsAt.byte? 0x1000 = none ∧ ∀ y, 0x1000 ≤ y → y < 0x1000 → (digitsAt.byte? y).isSome) ∧
    (digitsAt.byte? 0x100A = none ∧ 0x1009 ≤ 0x100A ∧ 0x100A < 0x1009 + 2 ∧
      ∀ y, 0x1009 ≤ y → y < 0x100A → (digitsAt.byte? y).isSome) ∧
    ((memoryAt (2 ^ 64 - 2) [1#8, 2#8]).byte? (2 ^ 64) = none ∧
      ∀ y, 2 ^ 64 - 1 ≤ y → y < 2 ^ 64 → ((memoryAt (2 ^ 64 - 2) [1#8, 2#8]).byte? y).isSome) := by
  refine ⟨⟨by decide, fun y h1 h2 => absurd h2 (by omega)⟩, ⟨by decide, by decide, by decide, fun y h1 h2 => ?_⟩,
    ⟨by decide, fun y h1 h2 => ?_⟩⟩
  · obtain rfl : y = 0x1009 := by omega
    decide
  · obtain rfl : y = 2 ^ 64 - 1 := by omega
    decide

theorem witness_ExecRefusesOnlyAbsentContexts :
    exec .rdacc { engine true [] 5#32 with ctx := 1 } = .refused (.noContext 1) := rfl

/-- A next state of a register command and of a buffer command. -/
theorem witness_CommandsWriteOnlyTheirState :
    (∃ t, exec (.ldacc 1#32) (engine true digitsAt 5#32) = .next t) ∧
    ∃ t, exec (.cksum 1#32 0x1001#64 0#64) (engine true digitsAt 5#32) = .next t := ⟨⟨_, rfl⟩, ⟨_, rfl⟩⟩

/-- A case for each clause: a command that keeps every accumulator, one that writes its own with a second context by it. -/
theorem witness_FrameOfEveryCommand :
    (∃ t, exec (.wrctl true) (engine true [] 5#32) = .next t) ∧
    (∃ t, exec (.tbl8 1#8) { engine true [] 5#32 with accs := [5#32, 6#32] } = .next t) ∧ (1 : Nat) ≠ 0 :=
  ⟨⟨_, rfl⟩, ⟨_, rfl⟩, by decide⟩

theorem witness_StepExecutesThePresentedCommand :
    (presented true 0x01#168).inputs = .command 0 0x01#168 :: [] ∧ 0 < (presented true 0x01#168).accs.length ∧
    decodePacket 0x01#168 = .ok (.ldacc 0#32) ∧ (engine true [] 5#32).inputs = [] ∧
    (engine true [] 5#32).accs.length ≤ 1 := ⟨rfl, by decide, rfl, rfl, by decide⟩

theorem witness_ResetEventClearsTheFlags :
    ({ engine true digitsAt 5#32 with fsw := true, inputs := [.reset] } : State).inputs = .reset :: [] := rfl

theorem witness_PlatformEventChangesOneByte :
    digitsAt.wf ∧ ({ engine true digitsAt 5#32 with inputs := [.platform 0x1000#64 (some 0#8)] } : State).inputs =
      .platform 0x1000#64 (some 0#8) :: [] := by decide

theorem witness_InvariantHoldsAfterReset : digitsAt.wf ∧ 1 ≤ (Config.mk false 2).nctx ∧
    [1#32, 2#32].length = (Config.mk false 2).nctx := by decide

/-- The invariant holds of an engine with memory, two contexts and the cache filled, which takes a `CKSUM` next. -/
def running : State :=
  { cfg := ⟨false, 2⟩, mem := digitsAt, accs := [1#32, 2#32], capv := true, capf := false, fsw := true, ctx := 1,
    rsp := some 7#32, inputs := [.command 0 0xC0#168], resets := 1 }

theorem running_inv : running.Inv := ⟨by decide, by decide, by decide, by decide, by decide, by decide⟩

theorem witness_EveryStepKeepsTheInvariant : running.Inv ∧ ∃ t, step running = .next t := ⟨running_inv, _, rfl⟩

/-- The cache set and no reset next; and the cache unset, which the step fills. -/
theorem witness_CapabilityFlagIsWrittenAtMostOnce :
    (running.Inv ∧ running.capv = true ∧ running.inputs.head? ≠ some .reset ∧ ∃ t, step running = .next t) ∧
    (({ running with capv := false } : State).Inv ∧ ∃ t, step { running with capv := false } = .next t ∧ t.capv = true) :=
  ⟨⟨running_inv, rfl, by decide, _, rfl⟩, ⟨by decide, by decide, by decide, by decide, by decide, by decide⟩, _, rfl, rfl⟩

/-- A step that changes `FSW` and one that changes memory. -/
theorem witness_WhoMayChangeOverrideAndMemory :
    (∃ t, step (presented true 0x010000000003#168) = .next t ∧ t.fsw ≠ (presented true 0x010000000003#168).fsw) ∧
    ∃ t, step { engine true digitsAt 5#32 with inputs := [.platform 0x1001#64 none] } = .next t ∧ t.mem ≠ digitsAt :=
  ⟨⟨_, rfl, by decide⟩, ⟨_, rfl, by decide⟩⟩

theorem witness_OtherContextsNeverTouchAcc :
    (∀ x ∈ running.inputs.take 1, commandOfOther 1 x = true) ∧ ∃ t, Host.Core.run Sys2Proof.core 1 running = .next t :=
  ⟨by decide, _, rfl⟩

/-- Two engines that differ in everything but memory. -/
theorem witness_CksumResponseIsPure :
    running.mem = (engine true digitsAt 5#32).mem ∧ (∃ t, exec (.cksum 1#32 0#64 0#64) running = .next t) ∧
    ∃ t, exec (.cksum 1#32 0#64 0#64) (engine true digitsAt 5#32) = .next t := ⟨rfl, ⟨_, rfl⟩, ⟨_, rfl⟩⟩

/-- The second part follows at once, or in a state of another engine with its cache set and its override on. -/
theorem witness_SplittingAndPathsDoNotShow :
    (engine true digitsAt 5#32).accs[(engine true digitsAt 5#32).ctx]? = some 5#32 ∧
    (digits.take 4).length = (4#64).toNat ∧ (digits.drop 4).length = (5#64).toNat ∧
    (digits.take 4 ++ digits.drop 4).length = (9#64).toNat ∧
    BufferHolds (engine true digitsAt 5#32).mem (0x1001#64).toNat (digits.take 4) ∧
    BufferHolds (engine true digitsAt 5#32).mem (0x1005#64).toNat (digits.drop 4) ∧
    BufferHolds (engine true digitsAt 5#32).mem (0x1001#64).toNat (digits.take 4 ++ digits.drop 4) ∧
    (engine true digitsAt 5#32).cfg.hwavail = true ∧
    running.accs[running.ctx]? = some 2#32 ∧ BufferHolds running.mem (0x1005#64).toNat (digits.drop 4) :=
  ⟨rfl, rfl, rfl, rfl, digitsAt_holds_first, digitsAt_holds_second, digitsAt_holds, rfl, rfl, digitsAt_holds_second⟩

/-- Each of the four commands that may come first, for the last of two contexts, and a buffer that reads. -/
theorem witness_FirstWriteHidesTheResetValue :
    (∀ i ∈ [Instr.ldacc 7#32, .cksum 0#32 0x1001#64 9#64, .hwsum 0#32 0x1001#64 9#64, .swsum 0#32 0x1001#64 9#64],
      decodePacket (encodePacket i) = .ok i) ∧
    1 < [5#32, 6#32].length ∧ CanComplete (.ldacc 7#32) (State.afterReset ⟨false, 2⟩ [] [5#32, 6#32] []) ∧
    CanComplete (.hwsum 0#32 0x1001#64 9#64) (State.afterReset ⟨true, 2⟩ digitsAt [5#32, 6#32] []) ∧
    digits.length = (9#64).toNat ∧ BufferHolds digitsAt (0x1001#64).toNat digits ∧ (Config.mk true 1).hwavail = true := by
  refine ⟨?_, by decide, ⟨by decide, .inl rfl⟩, ⟨fun _ => rfl, .inr ⟨by decide, fun x h1 h2 => ?_⟩⟩, rfl, digitsAt_holds, rfl⟩
  · intro i hi
    simp only [List.mem_cons, List.not_mem_nil, or_false] at hi
    obtain rfl | rfl | rfl | rfl := hi <;> rfl
  · obtain ⟨j, rfl⟩ := Nat.exists_eq_add_of_le h1
    exact Option.isSome_iff_exists.2 ⟨_, digitsAt_holds j (by
      have : (bufferOf (.hwsum 0#32 0x1001#64 9#64)).2 = digits.length := rfl
      omega)⟩

/-- A command that completes and one that does not. -/
theorem witness_CommandCompletesExactlyWhenAdmitted :
    ((presented true 0x01#168).inputs = .command 0 0x01#168 :: [] ∧ ∃ t, step (presented true 0x01#168) = .next t) ∧
    ((presented false 0x40#168).inputs = .command 0 0x40#168 :: [] ∧
      step (presented false 0x40#168) = .fault .hwUnavailable) := ⟨⟨rfl, _, rfl⟩, ⟨rfl, rfl⟩⟩

end Sys2Proof.Tests
end

section
/-!
The master equation (spec/00_scope.md R15) and the laws R16 that follow from it. The feedback network is linear over exclusive
or, so its steps and the slicing step are byte steps; a path is a cutting of the buffer, and each piece of either cutting
gives the single-byte update over its bytes.
-/

namespace Sys2Proof.Machine

/-! ### The feedback network is linear -/

@[simp] theorem feedBits_zero {w : Nat} (c : Word) (v : BitVec w) : feedBits c v 0 = c := rfl

theorem feedBits_succ {w : Nat} (c : Word) (v : BitVec w) (n : Nat) :
    feedBits c v (n + 1) = bitstep (feedBits c v n) (v.getLsbD n) := rfl

theorem bitstep_xor (c c' : Word) (d d' : Bool) : bitstep (c ^^^ c') (d ^^ d') = bitstep c d ^^^ bitstep c' d' := by
  have hbit : ((c ^^^ c').getLsbD 0 ^^ (d ^^ d')) = ((c.getLsbD 0 ^^ d) ^^ (c'.getLsbD 0 ^^ d')) := by
    rw [BitVec.getLsbD_xor, Bool.xor_assoc, Bool.xor_assoc, Bool.xor_left_comm d]
  have hpoly : ∀ x y : Bool, (if (x ^^ y) then Config.polyReflected else 0#32) =
      (if x then Config.polyReflected else 0#32) ^^^ (if y then Config.polyReflected else 0#32) := by decide
  simp only [bitstep, BitVec.ushiftRight_xor_distrib, hbit, hpoly]
  ac_rfl

theorem feedBits_xor {w : Nat} (c c' : Word) (v v' : BitVec w) (n : Nat) :
    feedBits (c ^^^ c') (v ^^^ v') n = feedBits c v n ^^^ feedBits c' v' n := by
  induction n with
  | zero => rfl
  | succ n ih => simp only [feedBits_succ, ih, BitVec.getLsbD_xor, bitstep_xor]

/-- Data bits equal to the bits that leave the accumulator cancel them: the accumulator is only shifted. -/
theorem feedBits_of_same_bits {w : Nat} (c : Word) (v : BitVec w) (n : Nat)
    (h : ∀ j < n, c.getLsbD j = v.getLsbD j) : feedBits c v n = c >>> n := by
  induction n with
  | zero => simp
  | succ n ih =>
    have hn : (c >>> n).getLsbD 0 = v.getLsbD n := by simpa using h n (by omega)
    rw [feedBits_succ, ih fun j hj => h j (by omega), bitstep, hn]
    simp [BitVec.shiftRight_add]

/-- A 32-bit operand can be put into the accumulator, or the accumulator into the operand. -/
theorem feedBits_word (c w : Word) : feedBits c w 32 = feedBits 0#32 (c ^^^ w) 32 := by
  have hc : feedBits c c 32 = 0#32 := by
    rw [feedBits_of_same_bits c c 32 fun _ _ => rfl, BitVec.ushiftRight_eq_zero (le_refl 32)]
  calc feedBits c w 32 = feedBits (c ^^^ 0#32) (c ^^^ (c ^^^ w)) 32 := by
        rw [BitVec.xor_zero, ← BitVec.xor_assoc, BitVec.xor_self, BitVec.zero_xor]
    _ = feedBits 0#32 (c ^^^ w) 32 := by rw [feedBits_xor, hc, BitVec.zero_xor]

/-- The bits of an operand from bit `n` on are fed after its first `n` bits. -/
theorem feedBits_add {w : Nat} (c : Word) (v : BitVec w) (n k : Nat) :
    feedBits c v (n + k) = feedBits (feedBits c v n) (v.extractLsb' n k) k := by
  suffices h : ∀ i ≤ k, feedBits c v (n + i) = feedBits (feedBits c v n) (v.extractLsb' n k) i from h k (le_refl k)
  intro i hi
  induction i with
  | zero => rfl
  | succ i ih =>
    have hbit : (v.extractLsb' n k).getLsbD i = v.getLsbD (n + i) := by
      simp [show i < k by omega]
    rw [← Nat.add_assoc, feedBits_succ, feedBits_succ, ih (by omega), hbit]

/-! ### The byte step is the 8-bit feedback step -/

/-- Table 0 is the remainder of its index under the feedback (spec/11_table_rom.md R50). -/
theorem rom_zero_eq_fb8 (i : Byte) : rom 0 i = fb8 0#32 i := by
  revert i
  decide +kernel

/-- Each table is the one before it and one zero byte more (spec/11_table_rom.md R51). -/
theorem rom_succ (k : Fin 7) (i : Byte) : rom k.succ i = bytestep (rom k.castSucc i) 0#8 := by
  revert k i
  decide +kernel

theorem bytestep_eq_fb8 (c : Word) (b : Byte) : bytestep c b = fb8 c b := by
  have hshift : fb8 c (byteAt c 0) = c >>> 8 :=
    feedBits_of_same_bits c (byteAt c 0) 8 fun j hj => by simp [byteAt, hj]
  have hb : b = byteAt (c ^^^ b.setWidth 32) 0 ^^^ byteAt c 0 := by
    ext j hj
    simp [byteAt, hj, Bool.xor_comm b[j], show j < 32 by omega]
  calc bytestep c b = fb8 0#32 (byteAt (c ^^^ b.setWidth 32) 0) ^^^ fb8 c (byteAt c 0) := by
        rw [bytestep, rom_zero_eq_fb8, hshift]
    _ = fb8 (0#32 ^^^ c) (byteAt (c ^^^ b.setWidth 32) 0 ^^^ byteAt c 0) := (feedBits_xor _ _ _ _ _).symm
    _ = fb8 c b := by rw [BitVec.zero_xor, ← hb]

theorem bytestep_xor (c c' : Word) (b b' : Byte) : bytestep (c ^^^ c') (b ^^^ b') = bytestep c b ^^^ bytestep c' b' := by
  simp only [bytestep_eq_fb8, fb8, feedBits_xor]

/-! ### The single-byte update -/

theorem crcUpdate_append (c : Word) (s1 s2 : List Byte) : crcUpdate c (s1 ++ s2) = crcUpdate (crcUpdate c s1) s2 := by
  induction s1 generalizing c with
  | nil => rfl
  | cons b s1 ih => exact ih _

/-- The accumulator's part in an update is what as many zero bytes make of it. -/
theorem crcUpdate_eq_xor (c c' : Word) (s : List Byte) :
    crcUpdate (c ^^^ c') s = crcUpdate c (List.replicate s.length 0#8) ^^^ crcUpdate c' s := by
  induction s generalizing c c' with
  | nil => rfl
  | cons b s ih =>
    have hb : bytestep (c ^^^ c') b = bytestep c 0#8 ^^^ bytestep c' b := by
      rw [← bytestep_xor, BitVec.zero_xor]
    simp only [List.length_cons, List.replicate_succ, crcUpdate_cons, hb, ih]

/-- Table `k` is the remainder of the byte followed by `k` zero bytes (spec/11_table_rom.md R51). -/
theorem rom_eq_crcUpdate (k : Fin 8) (i : Byte) : rom k i = crcUpdate 0#32 (i :: List.replicate k.val 0#8) := by
  induction k using Fin.induction with
  | zero => exact (rom_zero_eq_fb8 i).trans (bytestep_eq_fb8 0#32 i).symm
  | succ k ih => rw [rom_succ, ih, Fin.val_succ, List.replicate_succ', ← List.cons_append, crcUpdate_append]; rfl

/-- From a zero accumulator a byte's part is the entry of the table that counts the bytes after it. -/
theorem crcUpdate_zero_cons (b : Byte) (s : List Byte) (h : s.length < 8) :
    crcUpdate 0#32 (b :: s) = rom ⟨s.length, h⟩ b ^^^ crcUpdate 0#32 s := by
  rw [rom_eq_crcUpdate, crcUpdate_cons, crcUpdate_cons, ← crcUpdate_eq_xor, BitVec.xor_zero]

/-- Feeding whole bytes is the single-byte update over them, least significant byte first (spec/41_hardware_path.md R142). -/
theorem feedBits_eq_crcUpdate {w : Nat} (c : Word) (v : BitVec w) (n : Nat) :
    feedBits c v (8 * n) = crcUpdate c ((List.range n).map (byteAt v)) := by
  induction n with
  | zero => rfl
  | succ n ih =>
    rw [Nat.mul_succ, feedBits_add, ih, List.range_succ, List.map_append, crcUpdate_append]
    exact (bytestep_eq_fb8 _ _).symm

/-- The slicing step is the byte step over the bytes of both words (spec/42_software_path.md R163). -/
theorem sb8_eq_crcUpdate (c w0 w1 : Word) :
    sb8 c w0 w1 = crcUpdate c ((List.range 4).map (byteAt w0) ++ (List.range 4).map (byteAt w1)) := by
  have hacc : crcUpdate c ((List.range 4).map (byteAt w0)) = crcUpdate 0#32 ((List.range 4).map (byteAt (c ^^^ w0))) := by
    rw [← feedBits_eq_crcUpdate, ← feedBits_eq_crcUpdate, feedBits_word]
  rw [crcUpdate_append, hacc, ← crcUpdate_append]
  simp [sb8, List.range_succ, crcUpdate_zero_cons, -crcUpdate_cons, BitVec.xor_assoc]

/-! ### The operand in memory -/

/-- Byte `j` of a little-endian value is its digit of weight `256 ^ j`. -/
theorem leValue_digit (bs : List Byte) (j : Nat) (hj : j < bs.length) : leValue bs / 256 ^ j % 256 = bs[j].toNat := by
  induction bs generalizing j with
  | nil => exact absurd hj (Nat.not_lt_zero j)
  | cons b bs ih =>
    have hb := b.isLt
    cases j with
    | zero => simp only [leValue_cons, pow_zero, List.getElem_cons_zero]; omega
    | succ j =>
      have hdiv : (b.toNat + 256 * leValue bs) / 256 = leValue bs := by omega
      rw [leValue_cons, pow_succ', ← Nat.div_div_eq_div_mul, hdiv, List.getElem_cons_succ]
      exact ih j (by simpa using hj)

/-- The bytes of a little-endian value are the bytes it was read from. -/
theorem byteAt_leValue {w : Nat} (bs : List Byte) (h : 8 * bs.length ≤ w) (j : Nat) (hj : j < bs.length) :
    byteAt (BitVec.ofNat w (leValue bs)) j = bs[j] := by
  have hlt : leValue bs < 2 ^ w := calc
    leValue bs < 256 ^ bs.length := leValue_lt bs
    _ = 2 ^ (8 * bs.length) := by rw [pow_mul]; rfl
    _ ≤ 2 ^ w := Nat.pow_le_pow_right (by decide) h
  apply BitVec.eq_of_toNat_eq
  rw [← leValue_digit bs j hj, byteAt, BitVec.extractLsb'_toNat, BitVec.toNat_ofNat, Nat.mod_eq_of_lt hlt,
    Nat.shiftRight_eq_div_pow, pow_mul]
  rfl

theorem map_byteAt_leValue {w n : Nat} {bs : List Byte} (hl : bs.length = n) (h : 8 * n ≤ w) :
    (List.range n).map (byteAt (BitVec.ofNat w (leValue bs))) = bs := by
  subst hl
  exact List.ext_getElem (by simp) fun j _ hj => by simpa using byteAt_leValue bs h j hj

theorem bufferHolds_nil (m : Memory) (a : Nat) : BufferHolds m a [] := fun j h => absurd h (Nat.not_lt_zero j)

/-- A buffer's parts stand one after the other. -/
theorem bufferHolds_append (m : Memory) (a : Nat) (s1 s2 : List Byte) :
    BufferHolds m a (s1 ++ s2) ↔ BufferHolds m a s1 ∧ BufferHolds m (a + s1.length) s2 := by
  constructor
  · intro h
    refine ⟨fun j hj => ?_, fun j hj => ?_⟩
    · rw [h j (by simp; omega), List.getElem_append_left hj]
    · rw [Nat.add_assoc, h (s1.length + j) (by simpa using hj)]
      simp
  · rintro ⟨h1, h2⟩ j hj
    rw [List.length_append] at hj
    rcases Nat.lt_or_ge j s1.length with hlt | hge
    · rw [h1 j hlt, List.getElem_append_left hlt]
    · rw [List.getElem_append_right hge, ← h2 (j - s1.length) (by omega)]
      congr 1
      omega

/-- A buffer is cut at any point into two buffers. -/
theorem bufferHolds_split {m : Memory} {a n k : Nat} {bs : List Byte} (hl : bs.length = n + k) (h : BufferHolds m a bs) :
    ∃ s1 s2 : List Byte, bs = s1 ++ s2 ∧ s1.length = n ∧ s2.length = k ∧ BufferHolds m a s1 ∧
      BufferHolds m (a + n) s2 := by
  have hn : (bs.take n).length = n := List.length_take_of_le (by omega)
  rw [← List.take_append_drop n bs, bufferHolds_append, hn] at h
  exact ⟨bs.take n, bs.drop n, (List.take_append_drop n bs).symm, hn, by rw [List.length_drop]; omega, h⟩

/-! ### A cutting of a buffer into steps -/

/-- The steps `xs` give the single-byte update over the `n` bytes at `p`, whatever these are and from every accumulator. -/
def UpdatesBuffer (xs : List ChunkStep) (p n : Nat) : Prop :=
  ∀ (m : Memory) (c : Word) (bs : List Byte), bs.length = n → BufferHolds m p bs →
    runSteps m c xs = .ok (crcUpdate c bs)

theorem UpdatesBuffer.nil (p : Nat) : UpdatesBuffer [] p 0 := by
  intro m c bs hl _
  rw [List.length_eq_zero_iff.1 hl]
  rfl

theorem UpdatesBuffer.append {xs ys : List ChunkStep} {p n k : Nat} (hx : UpdatesBuffer xs p n)
    (hy : UpdatesBuffer ys (p + n) k) : UpdatesBuffer (xs ++ ys) p (n + k) := by
  intro m c bs hl hm
  obtain ⟨s1, s2, rfl, hn, hk, h1, h2⟩ := bufferHolds_split hl hm
  rw [runSteps_append, hx m c s1 hn h1, crcUpdate_append]
  exact hy m _ s2 hk h2

/-- A repeated body updates over as many pieces, one after the other. -/
theorem UpdatesBuffer.strided {size : Nat} {body : Nat → List ChunkStep}
    (h : ∀ q, UpdatesBuffer (body q) q size) (p n : Nat) : UpdatesBuffer (strided size body p n) p (size * n) := by
  induction n generalizing p with
  | zero => exact UpdatesBuffer.nil p
  | succ n ih =>
    rw [strided_succ, Nat.mul_succ, Nat.add_comm (size * n)]
    exact (h p).append (ih (p + size))

/-- One step whose reads are readable and whose step function is the update over the bytes read. -/
theorem UpdatesBuffer.single {x : ChunkStep} {p n : Nat} (h : ∀ (m : Memory) (c : Word) (bs : List Byte),
    bs.length = n → BufferHolds m p bs → runStep m c x = .ok (crcUpdate c bs)) : UpdatesBuffer [x] p n := by
  intro m c bs hl hm
  rw [runSteps_cons, h m c bs hl hm]
  rfl

/-- A step that reads `n` bytes and feeds their value is the update over these bytes. -/
theorem UpdatesBuffer.of_feed {x : ChunkStep} {p : Nat} (n : Nat) (hx : ∀ (m : Memory) (c : Word),
    runStep m c x = (memRead (8 * n) m p).bind fun v => .ok (feedBits c v (8 * n))) : UpdatesBuffer [x] p n :=
  .single fun m c bs hl hm => by
    have hread : memRead (8 * n) m p = .ok (BitVec.ofNat (8 * n) (leValue bs)) := memRead_of_bufferHolds (by omega) hm
    rw [hx, hread]
    exact congrArg Except.ok (by rw [feedBits_eq_crcUpdate, map_byteAt_leValue hl (le_refl _)])

theorem updatesBuffer_feed64 (p : Nat) : UpdatesBuffer [.feed64 p] p 8 := .of_feed 8 fun _ _ => rfl

theorem updatesBuffer_feed16 (p : Nat) : UpdatesBuffer [.feed16 p] p 2 := .of_feed 2 fun _ _ => rfl

theorem updatesBuffer_feed8 (p : Nat) : UpdatesBuffer [.feed8 p] p 1 := .of_feed 1 fun _ _ => rfl

theorem updatesBuffer_table8 (p : Nat) : UpdatesBuffer [.table8 p] p 1 :=
  .of_feed 1 fun m c => by simp only [runStep, bytestep_eq_fb8]; rfl

theorem updatesBuffer_slice8 (p : Nat) : UpdatesBuffer [.slice8 p] p 8 :=
  .single fun m c bs hl hm => by
    obtain ⟨s1, s2, rfl, h1, h2, hm1, hm2⟩ := bufferHolds_split (n := 4) (k := 4) hl hm
    rw [runStep, memRead_of_bufferHolds h1 hm1, memRead_of_bufferHolds h2 hm2]
    refine congrArg Except.ok ?_
    rw [sb8_eq_crcUpdate, map_byteAt_leValue h1 (by decide), map_byteAt_leValue h2 (by decide)]

/-! ### The two paths -/

theorem updatesBuffer_hwBlock (p : Nat) : UpdatesBuffer (hwBlock p) p 32 :=
  (((updatesBuffer_feed64 p).append (updatesBuffer_feed64 (p + 8))).append (updatesBuffer_feed64 (p + 16))).append
    (updatesBuffer_feed64 (p + 24))

theorem updatesBuffer_hwSteps (p len : Nat) : UpdatesBuffer (hwSteps p len) p len := by
  have hlast (q : Nat) : UpdatesBuffer (if len % 32 % 8 % 2 = 1 then [.feed8 q] else []) q (len % 32 % 8 % 2) := by
    split
    next h => rw [h]; exact updatesBuffer_feed8 q
    next h => rw [show len % 32 % 8 % 2 = 0 by omega]; exact .nil q
  have hcut : 32 * (len / 32) + 8 * (len % 32 / 8) + 2 * (len % 32 % 8 / 2) + len % 32 % 8 % 2 = len := by omega
  have h := (((UpdatesBuffer.strided updatesBuffer_hwBlock p (len / 32)).append
    (.strided updatesBuffer_feed64 _ (len % 32 / 8))).append (.strided updatesBuffer_feed16 _ (len % 32 % 8 / 2))).append
    (hlast _)
  rw [hcut] at h
  simpa only [hwSteps, Nat.add_assoc] using h

theorem updatesBuffer_swSteps (p len : Nat) : UpdatesBuffer (swSteps p len) p len := by
  have hlead : swLead p len ≤ len := Nat.min_le_right _ _
  have hcut : 1 * swLead p len + 8 * ((len - swLead p len) / 8) + 1 * ((len - swLead p len) % 8) = len := by omega
  have h := ((UpdatesBuffer.strided updatesBuffer_table8 p (swLead p len)).append
    (.strided updatesBuffer_slice8 _ ((len - swLead p len) / 8))).append
    (.strided updatesBuffer_table8 _ ((len - swLead p len) % 8))
  rw [hcut] at h
  simpa only [swSteps, Nat.one_mul, Nat.add_assoc] using h

theorem hwsum_of_bufferHolds {m : Memory} {a : Nat} {bs : List Byte} (c : Word) (h : BufferHolds m a bs) :
    hwsum m c a bs.length = .ok (crcUpdate c bs) :=
  updatesBuffer_hwSteps a bs.length m c bs rfl h

theorem swsum_of_bufferHolds {m : Memory} {a : Nat} {bs : List Byte} (c : Word) (h : BufferHolds m a bs) :
    swsum m c a bs.length = .ok (crcUpdate c bs) :=
  updatesBuffer_swSteps a bs.length m c bs rfl h

/-- Settles O9: both paths cut the buffer into pieces, and each piece's step is the update over its bytes. -/
theorem bothPathsEqualCrcUpdate : Obligations.BothPathsEqualCrcUpdate :=
  fun _ c _ _ h => ⟨hwsum_of_bufferHolds c h, swsum_of_bufferHolds c h⟩

/-- Settles O8: the laws are those of a left fold, carried to both paths by the master equation. -/
theorem checksumLawsOfBothPaths : Obligations.ChecksumLawsOfBothPaths := by
  refine ⟨fun _ => rfl, fun c s1 s2 => (crcUpdate_append c s1 s2).symm, fun m c a => ?_, ?_, ?_⟩
  · have h := bufferHolds_nil m a
    exact ⟨hwsum_of_bufferHolds c h, swsum_of_bufferHolds c h⟩
  · intro m a1 a2 a3 s1 s2 h1 h2 h3 c
    refine ⟨crcUpdate c s1, crcUpdate c (s1 ++ s2), hwsum_of_bufferHolds c h1, swsum_of_bufferHolds c h1, ?_, ?_,
      hwsum_of_bufferHolds c h3, swsum_of_bufferHolds c h3⟩
    · rw [crcUpdate_append]
      exact hwsum_of_bufferHolds _ h2
    · rw [crcUpdate_append]
      exact swsum_of_bufferHolds _ h2
  · intro m m' a a' bs h h' c
    exact ⟨crcUpdate c bs, hwsum_of_bufferHolds c h, hwsum_of_bufferHolds c h', swsum_of_bufferHolds c h,
      swsum_of_bufferHolds c h'⟩

end Sys2Proof.Machine
end

section
/-!
The status view (spec/10_state.md R29) and `RDSTAT`, which answers it (spec/40_gate_and_registers.md R126).
-/

namespace Sys2Proof

/-- A packet of class `00` decodes as its function selects (spec/30_encoding.md R95). -/
theorem decodePacket_of_decodeSystem {p : Packet} {i : Instr} (hz : opZero (packetOp p) = 0#3)
    (hc : opClass (packetOp p) = 0#2) (h : decodeSystem p = some i) : decodePacket p = .ok i := by
  have hf : decodeFields p = some i := by
    rw [decodeFields, if_pos hz, hc]
    exact h
  rw [decodePacket, hf]

theorem decodePacket_rdstat {p : Packet} (h : packetOp p = 0x02#8) : decodePacket p = .ok .rdstat := by
  have hs : decodeSystem p = some .rdstat := by
    rw [decodeSystem, h]
    rfl
  exact decodePacket_of_decodeSystem (by rw [h]; rfl) (by rw [h]; rfl) hs

end Sys2Proof

namespace Sys2Proof.Machine

/-! ### The bits of the status view -/

@[simp] theorem statusView_capv (capv capf fsw : Bool) : (statusView capv capf fsw).getLsbD 0 = capv := by
  revert capv capf fsw
  decide

@[simp] theorem statusView_capf (capv capf fsw : Bool) : (statusView capv capf fsw).getLsbD 1 = capf := by
  revert capv capf fsw
  decide

@[simp] theorem statusView_fsw (capv capf fsw : Bool) : (statusView capv capf fsw).getLsbD 2 = fsw := by
  revert capv capf fsw
  decide

theorem statusView_above (capv capf fsw : Bool) (j : Nat) (hj : 3 ≤ j) :
    (statusView capv capf fsw).getLsbD j = false := by
  have hlt : (statusView capv capf fsw).toNat < 2 ^ 3 := by
    revert capv capf fsw
    decide
  exact Nat.testBit_lt_two_pow (hlt.trans_le (Nat.pow_le_pow_right (by decide) hj))

/-- The view as a number: each bit with its weight. -/
theorem statusView_eq_ofNat (capv capf fsw : Bool) :
    statusView capv capf fsw = BitVec.ofNat 32 (capv.toNat + 2 * capf.toNat + 4 * fsw.toNat) := by
  revert capv capf fsw
  decide

/-- `CAPF` is 0 while `CAPV` is 0 (spec/10_state.md R26), so 2 and 6 are not among the views. -/
theorem statusView_mem_six {capv capf : Bool} (fsw : Bool) (h : capv = false → capf = false) :
    statusView capv capf fsw ∈ [0#32, 1#32, 3#32, 4#32, 5#32, 7#32] := by
  revert capv capf fsw
  decide

/-! ### `RDSTAT` -/

theorem exec_rdstat (s : State) : exec .rdstat s = .next { s with rsp := some s.view } := rfl

/-- Settles O25: the answer is the status view, read bit by bit, as a number, and under R26. -/
theorem rdstatAnswersStatusView : Obligations.RdstatAnswersStatusView :=
  ⟨fun _ => decodePacket_rdstat, fun s =>
    ⟨s.view, exec_rdstat s, statusView_capv .., statusView_capf .., statusView_fsw .., statusView_above _ _ _,
      statusView_eq_ofNat .., statusView_mem_six s.fsw⟩⟩

end Sys2Proof.Machine
end

section
/-!
The table ROM (spec/11_table_rom.md R50, R51): the loop that shifts a word out is the feedback over zero bits, and an operand of
at most 32 bits may stand in the accumulator instead.
-/

namespace Sys2Proof.Machine

/-! ### The loop that shifts a word out -/

@[simp] theorem shiftOut_zero (x : Word) : shiftOut 0 x = x := rfl

/-- One round of the loop is a bit step with input bit 0. -/
theorem shiftOut_succ (n : Nat) (x : Word) : shiftOut (n + 1) x = shiftOut n (bitstep x false) := by
  rw [shiftOut, bitstep, Bool.xor_false]

/-- The loop's last round can be split off instead of its first. -/
theorem shiftOut_succ_last (n : Nat) (x : Word) : shiftOut (n + 1) x = bitstep (shiftOut n x) false := by
  induction n generalizing x with
  | zero => rw [shiftOut_succ, shiftOut_zero, shiftOut_zero]
  | succ n ih => rw [shiftOut_succ, ih, ← shiftOut_succ]

theorem feedBits_zero_operand (w : Nat) (c : Word) (n : Nat) : feedBits c (0#w) n = shiftOut n c := by
  induction n with
  | zero => rfl
  | succ n ih => rw [feedBits_succ, ih, BitVec.getLsbD_zero, shiftOut_succ_last]

/-- An operand of at most 32 bits can be put into the accumulator: fed against itself it only shifts itself out. -/
theorem feedBits_eq_feedBits_zero_operand {w : Nat} (hw : w ≤ 32) (c : Word) (v : BitVec w) :
    feedBits c v w = feedBits (c ^^^ v.setWidth 32) (0#w) w := by
  have hself : feedBits (v.setWidth 32) v w = 0#32 := by
    rw [feedBits_of_same_bits _ v w fun j hj => by simp [show j < 32 by omega]]
    apply BitVec.eq_of_toNat_eq
    simp [Nat.shiftRight_eq_div_pow, Nat.mod_eq_of_lt (v.isLt.trans_le (Nat.pow_le_pow_right (by decide) hw)),
      Nat.div_eq_of_lt v.isLt]
  calc feedBits c v w = feedBits c v w ^^^ feedBits (v.setWidth 32) v w := by rw [hself, BitVec.xor_zero]
    _ = feedBits (c ^^^ v.setWidth 32) (v ^^^ v) w := (feedBits_xor _ _ _ _ _).symm
    _ = feedBits (c ^^^ v.setWidth 32) (0#w) w := by rw [BitVec.xor_self]

/-- Feeding an operand of at most 32 bits is the written-out loop (spec/41_hardware_path.md R140). -/
theorem feedBits_eq_shiftOut {w : Nat} (hw : w ≤ 32) (c : Word) (v : BitVec w) :
    feedBits c v w = shiftOut w (c ^^^ v.setWidth 32) := by
  rw [feedBits_eq_feedBits_zero_operand hw, feedBits_zero_operand]

/-! ### The tables -/

/-- The byte step over a zero byte, as spec/11_table_rom.md R51 writes it. -/
theorem bytestep_zero_byte (c : Word) : bytestep c 0#8 = (c >>> 8) ^^^ rom 0 (byteAt c 0) := by
  rw [bytestep, BitVec.setWidth_zero, BitVec.xor_zero, BitVec.xor_comm]

theorem rom_zero_eq_shiftOut (i : Byte) : rom 0 i = shiftOut 8 (i.setWidth 32) := by
  rw [rom_zero_eq_fb8, fb8, feedBits_eq_shiftOut (by decide), BitVec.zero_xor]

/-- Settles O1: the listing agrees with the generator and with the recurrence at every entry; the rest follows from the
feedback's linearity and by induction on the table's number. -/
theorem romFollowsGeneratorAndRecurrence : Obligations.RomFollowsGeneratorAndRecurrence := by
  refine ⟨fun i => ⟨rom_zero_eq_fb8 i, rom_zero_eq_shiftOut i⟩, bytestep_eq_fb8, fun k h i => ?_, rom_eq_crcUpdate⟩
  have hk : rom ⟨k + 1, h⟩ i = bytestep (rom ⟨k, by omega⟩ i) 0#8 := rom_succ ⟨k, by omega⟩ i
  exact ⟨hk.trans (bytestep_zero_byte _), hk⟩

end Sys2Proof.Machine
end

section
/-!
The read of the input buffer space (spec/20_memory.md R64, R73), and what a command may write (spec/20_memory.md R63): one frame
relation, kept by every shared operation that ends a command.
-/

namespace Sys2Proof.Machine

/-! ### The read of 1, 2, 4 or 8 bytes -/

/-- A read with an unreadable byte faults at its own address. -/
theorem memRead_of_unreadable {w : Nat} {m : Memory} {a j : Nat} (hj : j < w / 8) (h : m.byte? (a + j) = none) :
    memRead w m a = .error (.bufferFault a) := by
  have hbytes : m.bytes a (w / 8) = none := by
    refine Option.eq_none_iff_forall_ne_some.2 fun bs hbs => ?_
    obtain ⟨hl, hholds⟩ := (Memory.bytes_eq_some_iff m a (w / 8) bs).1 hbs
    have hread := hholds j (by omega)
    rw [h] at hread
    cases hread
  rw [memRead, hbytes]

/-- Settles O10: the value read has the buffer's bytes as its own, and an unreadable byte leaves no bytes to read. -/
theorem memReadIsLittleEndianOrFaults : Obligations.MemReadIsLittleEndianOrFaults := by
  intro m a n _
  have hn : 8 * n / 8 = n := by omega
  refine ⟨fun bs hl hm => ?_, ?_⟩
  · exact ⟨BitVec.ofNat (8 * n) (leValue bs), memRead_of_bufferHolds (by rw [hn, hl]) hm, byteAt_leValue bs (by omega)⟩
  · rintro ⟨j, hj, hnone⟩
    exact memRead_of_unreadable (by rwa [hn]) hnone

/-! ### How the shared operations answer a next state -/

/-- The availability check answers a next state only where the network is there and the rest of the command answers it. -/
theorem whenAvailable_eq_next {s t : State} {k : Host.Outcome State Fault Refusal} :
    whenAvailable s k = .next t ↔ s.cfg.hwavail = true ∧ k = .next t := by
  cases hw : s.cfg.hwavail <;> simp [hw]

/-- The admission check answers a next state only where the buffer is admitted and the rest of the command answers it. -/
theorem whenAdmitted_eq_next {s t : State} {addr : Addr} {len : Len} {k : Host.Outcome State Fault Refusal} :
    whenAdmitted s addr len k = .next t ↔ Admitted s.mem addr.toNat len.toNat ∧ k = .next t := by
  rcases whenAdmitted_cases s addr len k with ⟨ha, hk⟩ | ⟨x, hx, hk⟩
  · simp [ha, hk]
  · simp [admitted_iff_firstUnreadable, hx, hk]

theorem respondAcc_eq_next {s t : State} :
    respondAcc s = .next t ↔ ∃ a, s.acc? = some a ∧ t = { s with rsp := some a } := by
  rcases respondAcc_cases s with ⟨a, ha, hr⟩ | ⟨ha, hr⟩ <;> simp [ha, hr, eq_comm]

theorem updateAcc_eq_next {s t : State} {f : Word → Word} :
    updateAcc s f = .next t ↔
      ∃ a, s.acc? = some a ∧ t = { s with accs := s.accs.set s.ctx (f a), rsp := some (f a) } := by
  rcases updateAcc_cases s f with ⟨a, ha, hr⟩ | ⟨ha, hr⟩ <;> simp [ha, hr, eq_comm]

/-- A buffer command's end is that of `ACC <- c` with the sum `c`. -/
theorem finishSum_eq_next {s t : State} {r : Except Fault Word} :
    finishSum s r = .next t ↔ ∃ c, r = .ok c ∧ updateAcc s (fun _ => c) = .next t := by
  cases r <;> simp

/-! ### The frame of a command -/

/-- From `s` to `t` at most the `ACC` of the context at the engine, the three flags and the response are written
(spec/20_memory.md R63). -/
def OwnWrites (s t : State) : Prop :=
  ∃ (a : Word) (capv capf fsw : Bool) (rsp : Option Word),
    t = { s with accs := s.accs.set s.ctx a, capv := capv, capf := capf, fsw := fsw, rsp := rsp }

theorem OwnWrites.mem_eq {s t : State} (h : OwnWrites s t) : t.mem = s.mem := by
  obtain ⟨a, capv, capf, fsw, rsp, rfl⟩ := h
  rfl

/-- A second write of the same `ACC` hides the first. -/
theorem OwnWrites.trans {s t u : State} (hst : OwnWrites s t) (htu : OwnWrites t u) : OwnWrites s u := by
  obtain ⟨a, capv, capf, fsw, rsp, rfl⟩ := hst
  obtain ⟨a', capv', capf', fsw', rsp', rfl⟩ := htu
  exact ⟨a', capv', capf', fsw', rsp', by simp only [List.set_set]⟩

/-- Any position of a list, in range or not, holds a value whose writing changes nothing. -/
theorem exists_set_eq_self (accs : List Word) (c : Nat) : ∃ a, accs.set c a = accs := by
  rcases Nat.lt_or_ge c accs.length with hlt | hge
  · exact ⟨accs[c], List.set_getElem_self hlt⟩
  · exact ⟨0#32, List.set_eq_of_length_le hge⟩

/-- Writing flags and response only. -/
theorem ownWrites_flags (s : State) (capv capf fsw : Bool) (rsp : Option Word) :
    OwnWrites s { s with capv := capv, capf := capf, fsw := fsw, rsp := rsp } := by
  obtain ⟨a, ha⟩ := exists_set_eq_self s.accs s.ctx
  exact ⟨a, capv, capf, fsw, rsp, by rw [ha]⟩

theorem ownWrites_of_updateAcc {s t : State} {f : Word → Word} (h : updateAcc s f = .next t) : OwnWrites s t := by
  obtain ⟨a, -, rfl⟩ := updateAcc_eq_next.1 h
  exact ⟨f a, s.capv, s.capf, s.fsw, some (f a), rfl⟩

theorem ownWrites_of_finishSum {s t : State} {r : Except Fault Word} (h : finishSum s r = .next t) : OwnWrites s t := by
  obtain ⟨c, -, hc⟩ := finishSum_eq_next.1 h
  exact ownWrites_of_updateAcc hc

/-- A command that completes writes at most what R63 lists. -/
theorem exec_ownWrites {i : Instr} {s t : State} (h : exec i s = .next t) : OwnWrites s t := by
  cases i with
  | rdacc =>
    obtain ⟨a, -, rfl⟩ := respondAcc_eq_next.1 h
    exact ownWrites_flags s ..
  | rdstat | wrctl | probe =>
    cases h
    exact ownWrites_flags s ..
  | ldacc | tbl8 | sb8 => exact ownWrites_of_updateAcc h
  | fb8 | fb16 | fb64 =>
    obtain ⟨-, hk⟩ := whenAvailable_eq_next.1 h
    exact ownWrites_of_updateAcc hk
  | hwsum crc addr len =>
    obtain ⟨-, hk⟩ := whenAvailable_eq_next.1 h
    obtain ⟨-, hsum⟩ := whenAdmitted_eq_next.1 hk
    exact ownWrites_of_finishSum hsum
  | swsum crc addr len =>
    obtain ⟨-, hsum⟩ := whenAdmitted_eq_next.1 h
    exact ownWrites_of_finishSum hsum
  | cksum crc addr len =>
    obtain ⟨-, hsum⟩ := whenAdmitted_eq_next.1 h
    have hcache : OwnWrites s (s.fillCache (cachedGate s)) := ownWrites_flags s ..
    exact hcache.trans (ownWrites_of_finishSum hsum)

/-- Settles O37: every command keeps to the frame, and the frame holds memory as it is. -/
theorem commandsWriteOnlyTheirState : Obligations.CommandsWriteOnlyTheirState :=
  fun _ _ _ h => ⟨exec_ownWrites h, fun x => by rw [(exec_ownWrites h).mem_eq]⟩

end Sys2Proof.Machine
end

section
/-!
The packet as bits and as bytes (spec/30_encoding.md R91): it is its four fields and it is its 21 bytes, so decoding the bytes is
decoding the packet.
-/

namespace Sys2Proof

/-! ### The bytes of a bit vector -/

theorem byteAt_append_low {w v : Nat} (hi : BitVec w) (lo : BitVec v) {j : Nat} (h : 8 * j + 8 ≤ v) :
    byteAt (hi ++ lo) j = byteAt lo j :=
  BitVec.extractLsb'_append_eq_of_add_le h

theorem byteAt_append_high {w v k : Nat} (hi : BitVec w) (lo : BitVec v) (hv : v = 8 * k) (j : Nat) :
    byteAt (hi ++ lo) (k + j) = byteAt hi j := by
  rw [byteAt, BitVec.extractLsb'_append_eq_of_le (by omega), show 8 * (k + j) - v = 8 * j by omega, byteAt]

/-- Low byte first, the bytes of the low part come before those of the high part. -/
theorem map_byteAt_append {w v k : Nat} (hi : BitVec w) (lo : BitVec v) (hv : v = 8 * k) (n : Nat) :
    (List.range (k + n)).map (byteAt (hi ++ lo)) = (List.range k).map (byteAt lo) ++ (List.range n).map (byteAt hi) := by
  have hlow : (List.range k).map (byteAt (hi ++ lo)) = (List.range k).map (byteAt lo) :=
    List.map_congr_left fun j hj => byteAt_append_low hi lo (by have := List.mem_range.1 hj; omega)
  rw [List.range_add, List.map_append, hlow, List.map_map]
  exact congrArg _ (List.map_congr_left fun j _ => byteAt_append_high hi lo hv j)

theorem getLsbD_byteAt {w : Nat} (v : BitVec w) (i : Nat) : (byteAt v (i / 8)).getLsbD (i % 8) = v.getLsbD i := by
  rw [byteAt, BitVec.getLsbD_extractLsb', Nat.div_add_mod, decide_eq_true (Nat.mod_lt i (by decide)), Bool.true_and]

/-- A packet is determined by its 21 bytes. -/
theorem packetBytes_injective {p q : Packet} (h : packetBytes p = packetBytes q) : p = q := by
  refine BitVec.eq_of_getLsbD_eq fun i hi => ?_
  have hbyte : byteAt p (i / 8) = byteAt q (i / 8) := List.map_inj_left.1 h _ (List.mem_range.2 (by omega))
  rw [← getLsbD_byteAt p, hbyte, getLsbD_byteAt]

/-! ### The packet's fields -/

/-- A packet is determined by its four fields. -/
@[simp] theorem packetOf_fields (p : Packet) : packetOf (packetOp p) (packetCrc p) (packetArg p) (packetLen p) = p := by
  rw [packetOf, packetOp, packetCrc, packetArg, packetLen,
    BitVec.extractLsb'_append_extractLsb'_eq_extractLsb' (show 104 = 40 + 64 from rfl),
    BitVec.extractLsb'_append_extractLsb'_eq_extractLsb' (show 40 = 8 + 32 from rfl),
    BitVec.extractLsb'_append_extractLsb'_eq_extractLsb' (show 8 = 0 + 8 from rfl)]
  exact BitVec.extractLsb'_eq_self

theorem packetBytes_packetOf (op : Byte) (crc : Word) (arg : BitVec 64) (len : Len) :
    packetBytes (packetOf op crc arg len) =
      [op] ++ (List.range 4).map (byteAt crc) ++ (List.range 8).map (byteAt arg) ++ (List.range 8).map (byteAt len) := by
  have hop : (List.range 1).map (byteAt op) = [op] := congrArg (· :: []) BitVec.extractLsb'_eq_self
  calc packetBytes (packetOf op crc arg len)
    _ = (List.range 1).map (byteAt op) ++ (List.range 20).map (byteAt (len ++ arg ++ crc)) :=
      map_byteAt_append (len ++ arg ++ crc) op rfl 20
    _ = [op] ++ ((List.range 4).map (byteAt crc) ++ (List.range 16).map (byteAt (len ++ arg))) := by
      rw [hop, ← map_byteAt_append (len ++ arg) crc rfl 16]
    _ = [op] ++ ((List.range 4).map (byteAt crc) ++ ((List.range 8).map (byteAt arg) ++ (List.range 8).map (byteAt len))) := by
      rw [← map_byteAt_append len arg rfl 8]
    _ = _ := by rw [List.append_assoc, List.append_assoc]

/-! ### Decoding the bytes -/

/-- The number the decoder reads from a packet's bytes is the packet. -/
@[simp] theorem ofNat_leValue_packetBytes (p : Packet) : BitVec.ofNat 168 (leValue (packetBytes p)) = p :=
  packetBytes_injective (Machine.map_byteAt_leValue (packetBytes_length p) (by decide))

@[simp] theorem decode_packetBytes (p : Packet) : decode (packetBytes p) = decodePacket p := by
  rw [decode, if_pos (packetBytes_length p), ofNat_leValue_packetBytes]

theorem decode_wrongLength {bytes : List Byte} (h : bytes.length ≠ 21) :
    decode bytes = .error (.wrongLength bytes.length) := if_neg h

/-- Settles O14: the fields and the bytes are two cuttings of the same bits, and `decode` joins the bytes again. -/
theorem packetLayout : Obligations.PacketLayout := by
  have hfield : ∀ (p : Packet) (start n i : Nat), i < n →
      (p.extractLsb' start n).getLsbD i = p.getLsbD (start + i) := fun p start n i hi => by
    rw [BitVec.getLsbD_extractLsb', decide_eq_true hi, Bool.true_and]
  refine ⟨packetBytes_packetOf, fun p => ?_, fun _ => decode_wrongLength⟩
  exact ⟨packetOf_fields p, fun i hi => (hfield p 0 8 i hi).trans (by rw [Nat.zero_add]), hfield p 8 32, hfield p 40 64,
    hfield p 104 64, decode_packetBytes p⟩

end Sys2Proof
end

section
/-!
The pseudo-instructions (spec/30_encoding.md R104): a pseudo-instruction whose operands fit assembles as its expansion, and the
expansion of `SB8 w0, w1` is the canonical packet of the group with these two words.
-/

namespace Sys2Proof.Machine

theorem assemble_command {a : Asm} (h : asmWellFormed a = true) : assemble (.command a) = some (asmPacket a) := if_pos h

theorem assemble_pseudo {p : Pseudo} (h : pseudoWellFormed p = true) :
    assemble (.pseudo p) = some (asmPacket (expandPseudo p)) := if_pos h

/-- A pseudo-instruction is its expansion: both are taken, and they are the same packet. -/
theorem assemble_pseudo_eq_expansion {p : Pseudo} (hp : pseudoWellFormed p = true)
    (ha : asmWellFormed (expandPseudo p) = true) : assemble (.pseudo p) = assemble (.command (expandPseudo p)) := by
  rw [assemble_pseudo hp, assemble_command ha]

/-! ### The two words of a group -/

/-- Two words of 32 bits joined fit the operand of `SB8`. -/
theorem join_words_lt {w0 w1 : Nat} (h0 : w0 < 2 ^ 32) (h1 : w1 < 2 ^ 32) : (w1 <<< 32) ||| w0 < 2 ^ 64 := by
  refine Nat.or_lt_two_pow ?_ (by omega)
  rw [Nat.shiftLeft_eq]
  omega

theorem ofNat_join_words {w0 w1 : Nat} (h0 : w0 < 2 ^ 32) (h1 : w1 < 2 ^ 32) :
    BitVec.ofNat 64 ((w1 <<< 32) ||| w0) = BitVec.ofNat 32 w1 ++ BitVec.ofNat 32 w0 := by
  apply BitVec.eq_of_toNat_eq
  rw [BitVec.toNat_append, BitVec.toNat_ofNat, BitVec.toNat_ofNat, BitVec.toNat_ofNat,
    Nat.mod_eq_of_lt (join_words_lt h0 h1), Nat.mod_eq_of_lt h1, Nat.mod_eq_of_lt h0]

theorem asmPacket_sb8_join {w0 w1 : Nat} (h0 : w0 < 2 ^ 32) (h1 : w1 < 2 ^ 32) :
    asmPacket (.sb8 ((w1 <<< 32) ||| w0)) = encodePacket (.sb8 (BitVec.ofNat 32 w0) (BitVec.ofNat 32 w1)) :=
  congrArg (packetOf 0x83#8 0#32 · 0#64) (ofNat_join_words h0 h1)

/-- Settles O21: each pseudo-instruction and its expansion fit together; for `SB8` the joined words are the operand. -/
theorem pseudoInstructionsExpand : Obligations.PseudoInstructionsExpand := by
  refine ⟨assemble_pseudo_eq_expansion rfl (by decide), assemble_pseudo_eq_expansion rfl (by decide),
    assemble_pseudo_eq_expansion rfl (by decide), fun w0 w1 h0 h1 => ?_⟩
  have hp : pseudoWellFormed (.sb8Words w0 w1) = true := by
    simp only [pseudoWellFormed, fits, h0, h1, decide_true, Bool.and_self]
  have ha : asmWellFormed (.sb8 ((w1 <<< 32) ||| w0)) = true := decide_eq_true (join_words_lt h0 h1)
  exact ⟨assemble_pseudo_eq_expansion hp ha, by rw [assemble_pseudo hp, ← asmPacket_sb8_join h0 h1, expandPseudo]⟩

end Sys2Proof.Machine
end

section
/-!
The decoder, opcode by opcode (spec/30_encoding.md R92 to R95, R99, R100): the equation of each of the 13 opcodes, the opcode of
whatever decodes, and the refusal of every other opcode.
-/

namespace Sys2Proof

open Sys2Proof.Machine (definedOpcodes)

/-! ### The equation of each opcode -/

/-- A packet decodes to what the decoder of its class answers (R95). -/
theorem decodePacket_eq_ok {p : Packet} {i : Instr} : decodePacket p = .ok i ↔ decodeFields p = some i := by
  cases hf : decodeFields p <;> simp [decodePacket, hf]

/-- Word `w1` of a group is the high half of the operand. -/
theorem setWidth_ushiftRight_eq_extractLsb' (x : BitVec 64) : (x >>> 32).setWidth 32 = x.extractLsb' 32 32 := by
  simp [BitVec.extractLsb', BitVec.setWidth]

section
variable {p : Packet}

theorem decodePacket_rdacc (h : packetOp p = 0x00#8) : decodePacket p = .ok .rdacc :=
  decodePacket_eq_ok.2 (by rw [decodeFields, decodeSystem, h]; rfl)

theorem decodePacket_ldacc (h : packetOp p = 0x01#8) : decodePacket p = .ok (.ldacc (packetCrc p)) :=
  decodePacket_eq_ok.2 (by rw [decodeFields, decodeSystem, h]; rfl)

theorem decodePacket_wrctl (h : packetOp p = 0x03#8) : decodePacket p = .ok (.wrctl ((packetArg p).getLsbD 0)) :=
  decodePacket_eq_ok.2 (by rw [decodeFields, decodeSystem, h]; rfl)

theorem decodePacket_probe (h : packetOp p = 0x04#8) : decodePacket p = .ok .probe :=
  decodePacket_eq_ok.2 (by rw [decodeFields, decodeSystem, h]; rfl)

theorem decodePacket_fb8 (h : packetOp p = 0x40#8) : decodePacket p = .ok (.fb8 ((packetArg p).setWidth 8)) := by
  rw [BitVec.setWidth_eq_extractLsb' (by decide)]
  exact decodePacket_eq_ok.2 (by rw [decodeFields, decodeFeedback, h]; rfl)

theorem decodePacket_fb16 (h : packetOp p = 0x41#8) : decodePacket p = .ok (.fb16 ((packetArg p).setWidth 16)) := by
  rw [BitVec.setWidth_eq_extractLsb' (by decide)]
  exact decodePacket_eq_ok.2 (by rw [decodeFields, decodeFeedback, h]; rfl)

theorem decodePacket_fb64 (h : packetOp p = 0x43#8) : decodePacket p = .ok (.fb64 (packetArg p)) :=
  decodePacket_eq_ok.2 (by rw [decodeFields, decodeFeedback, h]; rfl)

theorem decodePacket_tbl8 (h : packetOp p = 0x80#8) : decodePacket p = .ok (.tbl8 ((packetArg p).setWidth 8)) := by
  rw [BitVec.setWidth_eq_extractLsb' (by decide)]
  exact decodePacket_eq_ok.2 (by rw [decodeFields, decodeTable, h]; rfl)

theorem decodePacket_sb8 (h : packetOp p = 0x83#8) :
    decodePacket p = .ok (.sb8 ((packetArg p).setWidth 32) ((packetArg p >>> 32).setWidth 32)) := by
  rw [setWidth_ushiftRight_eq_extractLsb', BitVec.setWidth_eq_extractLsb' (by decide)]
  exact decodePacket_eq_ok.2 (by rw [decodeFields, decodeTable, h]; rfl)

theorem decodePacket_cksum (h : packetOp p = 0xC0#8) :
    decodePacket p = .ok (.cksum (packetCrc p) (packetArg p) (packetLen p)) :=
  decodePacket_eq_ok.2 (by rw [decodeFields, decodeBuffer, h]; rfl)

theorem decodePacket_hwsum (h : packetOp p = 0xC1#8) :
    decodePacket p = .ok (.hwsum (packetCrc p) (packetArg p) (packetLen p)) :=
  decodePacket_eq_ok.2 (by rw [decodeFields, decodeBuffer, h]; rfl)

theorem decodePacket_swsum (h : packetOp p = 0xC2#8) :
    decodePacket p = .ok (.swsum (packetCrc p) (packetArg p) (packetLen p)) :=
  decodePacket_eq_ok.2 (by rw [decodeFields, decodeBuffer, h]; rfl)

end

/-! ### The opcode of what decodes -/

/-- The opcode byte with these numbers in its fields, `zero` being `000` (R95). -/
def opcodeOfFields (cls fn : Nat) : Byte := BitVec.ofNat 2 cls ++ 0#3 ++ BitVec.ofNat 3 fn

theorem opcodeOfFields_of_opZero {op : Byte} (h : opZero op = 0#3) :
    opcodeOfFields (opClass op).toNat (opFn op).toNat = op := by
  revert op
  decide

section
variable {p : Packet} {i : Instr}

theorem opcodeOf_of_decodeSystem (h : decodeSystem p = some i) :
    opcodeOf i = opcodeOfFields 0 (opFn (packetOp p)).toNat := by
  unfold decodeSystem at h
  split at h
  all_goals cases h
  all_goals next hfn => rw [hfn]; rfl

theorem opcodeOf_of_decodeFeedback (h : decodeFeedback p = some i) :
    opcodeOf i = opcodeOfFields 1 (opFn (packetOp p)).toNat := by
  unfold decodeFeedback at h
  split at h
  all_goals cases h
  all_goals next hfn => rw [hfn]; rfl

theorem opcodeOf_of_decodeTable (h : decodeTable p = some i) :
    opcodeOf i = opcodeOfFields 2 (opFn (packetOp p)).toNat := by
  unfold decodeTable at h
  split at h
  all_goals cases h
  all_goals next hfn => rw [hfn]; rfl

theorem opcodeOf_of_decodeBuffer (h : decodeBuffer p = some i) :
    opcodeOf i = opcodeOfFields 3 (opFn (packetOp p)).toNat := by
  unfold decodeBuffer at h
  split at h
  all_goals cases h
  all_goals next hfn => rw [hfn]; rfl

/-- Whatever the decoder answers has the packet's opcode as its own: all eight bits are compared (R99). -/
theorem opcodeOf_of_decodeFields (h : decodeFields p = some i) : opcodeOf i = packetOp p := by
  unfold decodeFields at h
  split at h
  case isFalse => cases h
  case isTrue hz =>
    rw [← opcodeOfFields_of_opZero hz]
    split at h
    case h_1 hc => rw [hc, opcodeOf_of_decodeSystem h]
    case h_2 hc => rw [hc, opcodeOf_of_decodeFeedback h]
    case h_3 hc => rw [hc, opcodeOf_of_decodeTable h]
    case h_4 h0 h1 h2 =>
      have hcls : ∀ cls : BitVec 2, cls.toNat ≠ 0 → cls.toNat ≠ 1 → cls.toNat ≠ 2 → cls.toNat = 3 := by decide
      rw [hcls _ h0 h1 h2, opcodeOf_of_decodeBuffer h]

theorem opcodeOf_of_decodePacket (h : decodePacket p = .ok i) : opcodeOf i = packetOp p :=
  opcodeOf_of_decodeFields (decodePacket_eq_ok.1 h)

end

theorem opcodeOf_mem_definedOpcodes (i : Instr) : opcodeOf i ∈ definedOpcodes := by
  cases i <;> exact List.contains_iff_mem.1 rfl

/-- An opcode that is none of the 13 is refused by name (R100). -/
theorem decodePacket_reserved {p : Packet} (h : packetOp p ∉ definedOpcodes) :
    decodePacket p = .error (.reservedCommand (packetOp p)) := by
  cases hf : decodeFields p with
  | none => rw [decodePacket, hf]
  | some i => exact absurd (opcodeOf_of_decodeFields hf ▸ opcodeOf_mem_definedOpcodes i) h

/-- Settles O15: the 13 equations, and the refusal of every other opcode. -/
theorem decoderComparesTheWholeOpcode : Obligations.DecoderComparesTheWholeOpcode := fun _ =>
  ⟨decodePacket_rdacc, decodePacket_ldacc, decodePacket_rdstat, decodePacket_wrctl, decodePacket_probe, decodePacket_fb8,
    decodePacket_fb16, decodePacket_fb64, decodePacket_tbl8, decodePacket_sb8, decodePacket_cksum, decodePacket_hwsum,
    decodePacket_swsum, decodePacket_reserved⟩

theorem exists_decodePacket_of_mem {p : Packet} (h : packetOp p ∈ definedOpcodes) : ∃ i, decodePacket p = .ok i := by
  simp only [definedOpcodes, List.mem_cons, List.not_mem_nil, or_false] at h
  rcases h with h | h | h | h | h | h | h | h | h | h | h | h | h
  exacts [⟨_, decodePacket_rdacc h⟩, ⟨_, decodePacket_ldacc h⟩, ⟨_, decodePacket_rdstat h⟩, ⟨_, decodePacket_wrctl h⟩,
    ⟨_, decodePacket_probe h⟩, ⟨_, decodePacket_fb8 h⟩, ⟨_, decodePacket_fb16 h⟩, ⟨_, decodePacket_fb64 h⟩,
    ⟨_, decodePacket_tbl8 h⟩, ⟨_, decodePacket_sb8 h⟩, ⟨_, decodePacket_cksum h⟩, ⟨_, decodePacket_hwsum h⟩,
    ⟨_, decodePacket_swsum h⟩]

end Sys2Proof

namespace Sys2Proof.Machine

/-! ### A presented command -/

section
variable {s : State} {c : Nat} {p : Packet} {rest : List Input}

theorem step_of_decodePacket_ok {i : Instr} (hs : s.inputs = .command c p :: rest) (hc : c < s.accs.length)
    (hp : decodePacket p = .ok i) : step s = exec i (s.accept c rest) := by
  simp only [step, hs, hc, hp, if_true]

theorem step_of_reserved (hs : s.inputs = .command c p :: rest) (hc : c < s.accs.length)
    (hp : packetOp p ∉ definedOpcodes) : step s = .refused (.reservedCommand (packetOp p)) := by
  simp only [step, hs, hc, decodePacket_reserved hp, if_true]

theorem step_of_absent_context (hs : s.inputs = .command c p :: rest) (hc : ¬ c < s.accs.length) :
    step s = .refused (.noContext c) := by
  simp only [step, hs, hc, if_false]

end

/-- Settles O19: the counts are over the 256 opcodes, and the refusal comes from the decoder, before any operand is read. -/
theorem reservedOpcodesAreRefused : Obligations.ReservedOpcodesAreRefused :=
  ⟨by decide +kernel, by decide +kernel, by decide, fun _ _ _ _ => step_of_reserved⟩

end Sys2Proof.Machine
end

section
/-!
The ignored bits (spec/30_encoding.md R93, R98). A packet decodes to a command exactly when its used bits are those of the
command's canonical packet, so no ignored bit can show.
-/

namespace Sys2Proof

/-! ### The used bits, field by field -/

theorem packetOf_inj {op op' : Byte} {crc crc' : Word} {arg arg' : BitVec 64} {len len' : Len} :
    packetOf op crc arg len = packetOf op' crc' arg' len' ↔ op = op' ∧ crc = crc' ∧ arg = arg' ∧ len = len' := by
  refine ⟨fun h => ⟨?_, ?_, ?_, ?_⟩, by rintro ⟨rfl, rfl, rfl, rfl⟩; rfl⟩
  · simpa using congrArg packetOp h
  · simpa using congrArg packetCrc h
  · simpa using congrArg packetArg h
  · simpa using congrArg packetLen h

theorem packetOf_and (op op' : Byte) (crc crc' : Word) (arg arg' : BitVec 64) (len len' : Len) :
    packetOf op crc arg len &&& packetOf op' crc' arg' len' =
      packetOf (op &&& op') (crc &&& crc') (arg &&& arg') (len &&& len') := by
  rw [packetOf, packetOf, BitVec.and_append, BitVec.and_append, BitVec.and_append, packetOf]

/-- Masking with the low `n` bits keeps these and clears the others. -/
theorem and_lowBits {w : Nat} (x : BitVec w) (n : Nat) :
    x &&& BitVec.ofNat w (2 ^ n - 1) = (x.setWidth n).setWidth w :=
  BitVec.eq_of_getLsbD_eq fun i hi => by
    simp only [BitVec.getLsbD_and, BitVec.getLsbD_ofNat, BitVec.getLsbD_setWidth, Nat.testBit_two_pow_sub_one, hi,
      decide_true, Bool.true_and, Bool.and_comm]

/-- A field that a format uses whole or not at all. -/
theorem and_ite_allOnes {w : Nat} (x : BitVec w) (b : Bool) :
    x &&& (if b then BitVec.allOnes w else 0#w) = if b then x else 0#w := by
  cases b
  · exact BitVec.and_zero
  · exact BitVec.and_allOnes

/-- What a format leaves of a packet (R93). -/
theorem and_usedBits (p : Packet) (crc len : Bool) (n : Nat) :
    p &&& usedBits crc n len = packetOf (packetOp p) (if crc then packetCrc p else 0#32)
      (((packetArg p).setWidth n).setWidth 64) (if len then packetLen p else 0#64) := by
  conv_lhs => rw [← packetOf_fields p, usedBits, packetOf_and]
  rw [BitVec.and_allOnes, and_ite_allOnes, and_lowBits, and_ite_allOnes]

/-- The canonical packet of `i` is what a format leaves of `p`: it is so field by field. -/
theorem encodePacket_eq_and_usedBits {p : Packet} {i : Instr} {crc len : Bool} {n : Nat} :
    encodePacket i = p &&& usedBits crc n len ↔ opcodeOf i = packetOp p ∧ crcOf i = (if crc then packetCrc p else 0#32) ∧
      argOf i = ((packetArg p).setWidth n).setWidth 64 ∧ lenOf i = (if len then packetLen p else 0#64) := by
  rw [and_usedBits, encodePacket, packetOf_inj]

/-! ### Decoding looks at the used bits only -/

/-- Where the opcode's equation answers `j`, decoding to `i` is having `i`'s opcode and `i`'s operands. -/
theorem decodePacket_eq_ok_of_opcode {p : Packet} {i j : Instr} (h : packetOp p = opcodeOf i → decodePacket p = .ok j) :
    decodePacket p = .ok i ↔ opcodeOf i = packetOp p ∧ j = i := by
  constructor
  · intro hi
    have hop := opcodeOf_of_decodePacket hi
    exact ⟨hop, Except.ok.inj ((h hop.symm).symm.trans hi)⟩
  · rintro ⟨hop, rfl⟩
    exact h hop.symm

/-- It is enough to compare the operands that the opcode's equation answers with the fields that the format leaves. -/
theorem decodePacket_eq_ok_of_fields {p : Packet} {i j : Instr} {crc len : Bool} {n : Nat}
    (hm : usedMask i = usedBits crc n len) (hd : packetOp p = opcodeOf i → decodePacket p = .ok j)
    (hf : j = i ↔ crcOf i = (if crc then packetCrc p else 0#32) ∧
      argOf i = ((packetArg p).setWidth n).setWidth 64 ∧ lenOf i = (if len then packetLen p else 0#64)) :
    decodePacket p = .ok i ↔ encodePacket i = p &&& usedMask i := by
  rw [decodePacket_eq_ok_of_opcode hd, hm, encodePacket_eq_and_usedBits, hf]

theorem setWidth_eq_setWidth {n w : Nat} (h : n ≤ w) {x y : BitVec n} : x.setWidth w = y.setWidth w ↔ x = y :=
  ⟨fun hxy => by simpa [BitVec.setWidth_setWidth_of_le, h] using congrArg (BitVec.setWidth n) hxy, congrArg _⟩

theorem append_words_eq {w0 w1 : Word} {x : BitVec 64} :
    w1 ++ w0 = x ↔ x.setWidth 32 = w0 ∧ (x >>> 32).setWidth 32 = w1 := by
  rw [setWidth_ushiftRight_eq_extractLsb', BitVec.setWidth_eq_extractLsb' (by decide)]
  constructor
  · rintro rfl
    exact ⟨BitVec.extractLsb'_append_eq_right, BitVec.extractLsb'_append_eq_left⟩
  · rintro ⟨rfl, rfl⟩
    rw [BitVec.extractLsb'_append_extractLsb'_eq_extractLsb' (show 32 = 0 + 32 from rfl)]
    exact BitVec.extractLsb'_eq_self

/-- A packet decodes to the command whose canonical packet its used bits are, and to no other. -/
theorem decodePacket_eq_ok_iff_encodePacket {p : Packet} {i : Instr} :
    decodePacket p = .ok i ↔ encodePacket i = p &&& usedMask i := by
  cases i with
  | rdacc =>
    exact decodePacket_eq_ok_of_fields rfl decodePacket_rdacc (by simp [crcOf, argOf, lenOf, BitVec.of_length_zero])
  | ldacc crc =>
    exact decodePacket_eq_ok_of_fields rfl decodePacket_ldacc (by simp [crcOf, argOf, lenOf, BitVec.of_length_zero, eq_comm])
  | rdstat =>
    exact decodePacket_eq_ok_of_fields rfl decodePacket_rdstat (by simp [crcOf, argOf, lenOf, BitVec.of_length_zero])
  | wrctl fsw =>
    exact decodePacket_eq_ok_of_fields rfl decodePacket_wrctl (by
      simp [crcOf, argOf, lenOf, setWidth_eq_setWidth, BitVec.setWidth_one, BitVec.ofBool_eq_iff_eq, eq_comm])
  | probe =>
    exact decodePacket_eq_ok_of_fields rfl decodePacket_probe (by simp [crcOf, argOf, lenOf, BitVec.of_length_zero])
  | fb8 d =>
    exact decodePacket_eq_ok_of_fields rfl decodePacket_fb8 (by simp [crcOf, argOf, lenOf, setWidth_eq_setWidth, eq_comm])
  | fb16 d =>
    exact decodePacket_eq_ok_of_fields rfl decodePacket_fb16 (by simp [crcOf, argOf, lenOf, setWidth_eq_setWidth, eq_comm])
  | fb64 d =>
    exact decodePacket_eq_ok_of_fields rfl decodePacket_fb64 (by simp [crcOf, argOf, lenOf, eq_comm])
  | tbl8 d =>
    exact decodePacket_eq_ok_of_fields rfl decodePacket_tbl8 (by simp [crcOf, argOf, lenOf, setWidth_eq_setWidth, eq_comm])
  | sb8 w0 w1 =>
    exact decodePacket_eq_ok_of_fields rfl decodePacket_sb8 (by simp [crcOf, argOf, lenOf, append_words_eq])
  | cksum crc addr len =>
    exact decodePacket_eq_ok_of_fields rfl decodePacket_cksum (by simp [crcOf, argOf, lenOf, eq_comm])
  | hwsum crc addr len =>
    exact decodePacket_eq_ok_of_fields rfl decodePacket_hwsum (by simp [crcOf, argOf, lenOf, eq_comm])
  | swsum crc addr len =>
    exact decodePacket_eq_ok_of_fields rfl decodePacket_swsum (by simp [crcOf, argOf, lenOf, eq_comm])

/-! ### The canonical packet -/

/-- The mask keeps the canonical packet: each field fits what the command's format uses of it. -/
theorem encodePacket_and_usedMask (i : Instr) : encodePacket i &&& usedMask i = encodePacket i := by
  symm
  cases i <;> exact encodePacket_eq_and_usedBits.2 (by simp [encodePacket, opcodeOf, crcOf, argOf, lenOf])

theorem encodePacket_and_not_usedMask (i : Instr) : encodePacket i &&& ~~~usedMask i = 0#168 := by
  rw [← encodePacket_and_usedMask i, BitVec.and_assoc, BitVec.and_not_self]
  exact BitVec.and_zero

@[simp] theorem decodePacket_encodePacket (i : Instr) : decodePacket (encodePacket i) = .ok i :=
  decodePacket_eq_ok_iff_encodePacket.2 (encodePacket_and_usedMask i).symm

end Sys2Proof

namespace Sys2Proof.Machine

/-- The engine's outcome depends on a presented packet only through the command it decodes to. -/
theorem step_command_congr {p q : Packet} {i : Instr} (hp : decodePacket p = .ok i) (hq : decodePacket q = .ok i)
    (s : State) (c : Nat) (rest : List Input) :
    step { s with inputs := .command c p :: rest } = step { s with inputs := .command c q :: rest } := by
  by_cases hc : c < s.accs.length
  · have hexec : ∀ r, decodePacket r = .ok i →
        step { s with inputs := .command c r :: rest } = exec i (s.accept c rest) :=
      fun r => step_of_decodePacket_ok rfl hc
    rw [hexec p hp, hexec q hq]
  · have habsent : ∀ r, step { s with inputs := .command c r :: rest } = .refused (.noContext c) :=
      fun r => step_of_absent_context rfl hc
    rw [habsent p, habsent q]

/-- Settles O18: the used bits decide the command, and the command decides the outcome. -/
theorem ignoredBitsAreIgnored : Obligations.IgnoredBitsAreIgnored := by
  refine ⟨fun p q i hp hpq => ?_, fun _ => exists_decodePacket_of_mem, encodePacket_and_not_usedMask⟩
  have hq : decodePacket q = .ok i :=
    decodePacket_eq_ok_iff_encodePacket.2 ((decodePacket_eq_ok_iff_encodePacket.1 hp).trans hpq)
  exact ⟨hq, step_command_congr hp hq⟩

end Sys2Proof.Machine
end

section
/-!
The commands of the accumulator and of the gate: `RDACC`, `LDACC` and `PROBE` (spec/40_gate_and_registers.md R122, R123,
R125).
-/

namespace Sys2Proof.Machine

/-! ### `RDACC` and `LDACC` -/

theorem exec_rdacc_of_acc {s : State} {a : Word} (h : s.acc? = some a) : exec .rdacc s = .next { s with rsp := some a } :=
  respondAcc_of_acc h

/-- The old value `a` has no part in the next state: it only says that the context exists. -/
theorem exec_ldacc_of_acc {s : State} {a : Word} (crc : Word) (h : s.acc? = some a) :
    exec (.ldacc crc) s = .next { s with accs := s.accs.set s.ctx crc, rsp := some crc } :=
  updateAcc_of_acc (fun _ => crc) h

/-- Settles O23: the response is not read, so the state after the first `RDACC` still has `ACC` = `a`. -/
theorem rdaccAnswersAcc : Obligations.RdaccAnswersAcc := by
  refine ⟨fun _ => decodePacket_rdacc, fun s a h => ⟨exec_rdacc_of_acc h, ?_⟩⟩
  have hacc : { s with rsp := some a }.acc? = some a := h
  exact exec_rdacc_of_acc hacc

/-- Settles O24: the update of `ACC` by the constant `cmd.crc`. -/
theorem ldaccLoadsAcc : Obligations.LdaccLoadsAcc :=
  ⟨fun _ => decodePacket_ldacc, fun _ _ crc h => exec_ldacc_of_acc crc h⟩

/-! ### `PROBE` -/

theorem ofBool_setWidth_word (b : Bool) :
    (BitVec.ofBool b).setWidth 32 = if b then 0x00000001#32 else 0x00000000#32 := by
  cases b <;> rfl

theorem exec_probe (s : State) :
    exec .probe s = .next { s with rsp := some (if s.cfg.hwavail then 0x00000001#32 else 0x00000000#32) } := by
  rw [← ofBool_setWidth_word]
  rfl

/-- Settles O27: the answer depends on `HWAVAIL` alone, which `PROBE` keeps, so the second answer is already there. -/
theorem probeAnswersGate : Obligations.ProbeAnswersGate := by
  refine ⟨fun _ => decodePacket_probe, fun s => ⟨exec_probe s, fun t ht => ?_⟩⟩
  obtain rfl := Host.Outcome.next.inj ((exec_probe s).symm.trans ht)
  exact exec_probe _

end Sys2Proof.Machine
end

section
/-!
The feedback steps (spec/41_hardware_path.md R140 to R142): an operand is fed as its low part and then its high part, so the
16-bit step is two bytes and the 64-bit step two words; and without the network no command reaches them.
-/

namespace Sys2Proof.Machine

/-! ### An operand in two parts -/

/-- Feeding an operand is feeding its low `n` bits and then the `k` bits above these, each part as an operand of its own. -/
theorem feedBits_low_high {w : Nat} (c : Word) (v : BitVec w) (n k : Nat) :
    feedBits c v (n + k) = feedBits (feedBits c (v.extractLsb' 0 n) n) (v.extractLsb' n k) k := by
  have hlow : feedBits c v n = feedBits c (v.extractLsb' 0 n) n := by simpa using feedBits_add c v 0 n
  rw [feedBits_add, hlow]

theorem fb16_eq_fb8_fb8 (c : Word) (v : BitVec 16) :
    fb16 c v = fb8 (fb8 c (v.extractLsb' 0 8)) (v.extractLsb' 8 8) := feedBits_low_high c v 8 8

theorem fb64_eq_feedBits_words (c : Word) (v : BitVec 64) :
    fb64 c v = feedBits (feedBits c (v.extractLsb' 0 32) 32) (v.extractLsb' 32 32) 32 := feedBits_low_high c v 32 32

/-! ### The written-out loops -/

/-- Settles O3: an operand of at most 32 bits is one loop, and the 64-bit operand is two operands of 32 bits. -/
theorem feedbackStepsAreTheWrittenOutLoops : Obligations.FeedbackStepsAreTheWrittenOutLoops := by
  refine fun c => ⟨feedBits_eq_shiftOut (by decide) c, feedBits_eq_shiftOut (by decide) c, fun v => ?_⟩
  have hword (x w : Word) : feedBits x w 32 = shiftOut 32 (x ^^^ w) := by
    rw [feedBits_eq_shiftOut (le_refl 32), BitVec.setWidth_eq]
  rw [fb64_eq_feedBits_words, hword, hword]

/-! ### The steps of the Software Path -/

/-- The slicing step feeds the two words one after the other. -/
theorem sb8_eq_feedBits_words (c w0 w1 : Word) : sb8 c w0 w1 = feedBits (feedBits c w0 32) w1 32 := by
  have hword (x w : Word) : feedBits x w 32 = crcUpdate x ((List.range 4).map (byteAt w)) := feedBits_eq_crcUpdate x w 4
  rw [sb8_eq_crcUpdate, crcUpdate_append, hword, hword]

/-- Settles O4: the byte step is the 8-bit feedback step, and the feedback of a wider operand is that of its parts. -/
theorem feedbackStepsEqualByteSteps : Obligations.FeedbackStepsEqualByteSteps := by
  refine fun c => ⟨fun v => (bytestep_eq_fb8 c v).symm, fun v => ?_, fun v => ⟨feedBits_eq_crcUpdate c v 8, ?_⟩⟩
  · rw [fb16_eq_fb8_fb8, bytestep_eq_fb8, bytestep_eq_fb8]
  · rw [fb64_eq_feedBits_words, sb8_eq_feedBits_words]

/-! ### An engine without the feedback network -/

/-- Settles O33: the availability check is the first thing each of the four commands does. -/
theorem feedbackNeedsHardware : Obligations.FeedbackNeedsHardware := fun _ h =>
  ⟨fun _ => whenAvailable_false h _, fun _ => whenAvailable_false h _, fun _ => whenAvailable_false h _,
    fun _ _ _ => whenAvailable_false h _⟩

end Sys2Proof.Machine
end

section
/-!
Encoding and decoding are inverse (spec/30_encoding.md sections 1 to 3): a command survives its canonical packet, and of a packet
the canonical one keeps the used bits.
-/

namespace Sys2Proof

@[simp] theorem decode_encode (i : Instr) : decode (encode i) = .ok i := by
  rw [encode, decode_packetBytes, decodePacket_encodePacket]

/-- Settles O16: the bytes are those of the canonical packet, which decodes to the command because the mask keeps it. -/
theorem decodeOfEncodeIsTheCommand : Obligations.DecodeOfEncodeIsTheCommand :=
  fun i => ⟨packetBytes_length _, decode_encode i, decodePacket_encodePacket i⟩

/-- Settles O17: a packet decodes to the command whose canonical packet its used bits are. -/
theorem encodeOfDecodeClearsIgnoredBits : Obligations.EncodeOfDecodeClearsIgnoredBits :=
  fun _ _ => decodePacket_eq_ok_iff_encodePacket.1

/-- Bytes that are the encoding of a command decode to it. -/
theorem decode_of_encode_eq {bytes : List Byte} {i : Instr} (h : encode i = bytes) : decode bytes = .ok i :=
  h ▸ decode_encode i

/-- Settles O20: each listed byte sequence is the encoding of its command. -/
theorem listedWordsDecode : Obligations.ListedWordsDecode :=
  ⟨decode_of_encode_eq (by decide), decode_of_encode_eq (by decide), decode_of_encode_eq (by decide),
    decode_of_encode_eq (by decide)⟩

end Sys2Proof
end

section
/-!
The laws of the feedback, of the tables and of the table steps (spec/41_hardware_path.md section 3, spec/11_table_rom.md section 1,
spec/42_software_path.md section 3). A bit step can be undone: the top bit of its result says whether the polynomial was added.
-/

namespace Sys2Proof.Machine

/-! ### The feedback can be undone -/

/-- The shift clears the top bit and the polynomial sets it. -/
theorem getLsbD_bitstep_top (c : Word) (d : Bool) : (bitstep c d).getLsbD 31 = (c.getLsbD 0 ^^ d) := by
  rw [bitstep]
  cases c.getLsbD 0 ^^ d <;> simp [Config.polyReflected]

theorem bitstep_injective (d : Bool) : Function.Injective fun c => bitstep c d := by
  intro c c' (h : bitstep c d = bitstep c' d)
  have hbit : c.getLsbD 0 = c'.getLsbD 0 := by
    have htop := congrArg (BitVec.getLsbD · 31) h
    simpa only [getLsbD_bitstep_top, Bool.xor_left_inj] using htop
  have hshift : c >>> 1 = c' >>> 1 := by
    simpa only [bitstep, hbit, BitVec.xor_left_inj] using h
  refine BitVec.eq_of_getLsbD_eq fun j hj => ?_
  cases j with
  | zero => exact hbit
  | succ j => simpa [Nat.add_comm] using congrArg (BitVec.getLsbD · j) hshift

theorem feedBits_injective {w : Nat} (v : BitVec w) (n : Nat) : Function.Injective fun c : Word => feedBits c v n := by
  induction n with
  | zero => exact fun _ _ h => h
  | succ n ih => exact (bitstep_injective (v.getLsbD n)).comp ih

@[simp] theorem feedBits_zero_zero (w n : Nat) : feedBits 0#32 (0#w) n = 0#32 := by
  have h := feedBits_xor 0#32 0#32 (0#w) (0#w) n
  simpa only [BitVec.xor_self] using h

/-- Settles O5: linearity is that of a bit step, and an injective step of a finite accumulator is a bijection. -/
theorem feedbackIsLinearAndBijective : Obligations.FeedbackIsLinearAndBijective := fun w =>
  ⟨fun c c' v v' => feedBits_xor c c' v v' w, feedBits_zero_zero w w, fun hw => feedBits_eq_feedBits_zero_operand hw,
    fun v => Finite.injective_iff_bijective.1 (feedBits_injective v w)⟩

/-! ### The byte step and the single-byte update -/

theorem bytestep_injective (b : Byte) : Function.Injective fun c => bytestep c b := by
  simp only [bytestep_eq_fb8]
  exact feedBits_injective b 8

theorem crcUpdate_injective (s : List Byte) : Function.Injective fun c => crcUpdate c s := by
  induction s with
  | nil => exact fun _ _ h => h
  | cons b s ih => exact ih.comp (bytestep_injective b)

@[simp] theorem bytestep_zero : bytestep 0#32 0#8 = 0#32 := by
  rw [bytestep_eq_fb8, fb8, feedBits_zero_zero]

/-- The data byte can be put into the accumulator. -/
theorem bytestep_eq_bytestep_zero_byte (c : Word) (b : Byte) : bytestep c b = bytestep (c ^^^ b.setWidth 32) 0#8 := by
  rw [bytestep_eq_fb8, bytestep_eq_fb8]
  exact feedBits_eq_feedBits_zero_operand (by decide) c b

theorem crcUpdate_replicate_zero (n : Nat) : crcUpdate 0#32 (List.replicate n 0#8) = 0#32 := by
  induction n with
  | zero => rfl
  | succ n ih => rw [List.replicate_succ, crcUpdate_cons, bytestep_zero, ih]

/-- Settles O7: the polynomials and the check values are fixed words; zero bytes leave a zero accumulator. -/
theorem checksumsAreRaw : Obligations.ChecksumsAreRaw :=
  ⟨by decide +kernel, by decide +kernel, by decide +kernel, crcUpdate_replicate_zero⟩

/-! ### The tables -/

theorem rom_xor (k : Fin 8) (a b : Byte) : rom k (a ^^^ b) = rom k a ^^^ rom k b := by
  have hbyte : bytestep 0#32 (a ^^^ b) = bytestep 0#32 a ^^^ bytestep 0#32 b := by
    rw [← bytestep_xor, BitVec.xor_self]
  simp only [rom_eq_crcUpdate, crcUpdate_cons, hbyte, crcUpdate_eq_xor, List.length_replicate]

/-- Entry 0 is the checksum of zero bytes alone. -/
theorem rom_zero_entry (k : Fin 8) : rom k 0#8 = 0#32 := by
  rw [rom_eq_crcUpdate, ← List.replicate_succ, crcUpdate_replicate_zero]

/-- Nothing on the way from the byte to its entry can be undone in two ways: the zero bytes, the byte step, the widening. -/
theorem rom_injective (k : Fin 8) : Function.Injective (rom k) := by
  intro a b h
  rw [rom_eq_crcUpdate, rom_eq_crcUpdate] at h
  have hstep : bytestep 0#32 a = bytestep 0#32 b := crcUpdate_injective _ h
  rw [bytestep_eq_bytestep_zero_byte, bytestep_eq_bytestep_zero_byte _ b, BitVec.zero_xor, BitVec.zero_xor] at hstep
  exact (setWidth_eq_setWidth (by decide)).1 (bytestep_injective 0#8 hstep)

/-- Settles O2: a table is the single-byte update of its index and some zero bytes, which is linear and injective. -/
theorem everyTableIsLinearAndInjective : Obligations.EveryTableIsLinearAndInjective :=
  ⟨rom_zero_entry, rom_xor, by decide, rom_injective⟩

/-! ### The slicing step -/

theorem sb8_xor (c c' w0 w0' w1 w1' : Word) :
    sb8 (c ^^^ c') (w0 ^^^ w0') (w1 ^^^ w1') = sb8 c w0 w1 ^^^ sb8 c' w0' w1' := by
  simp only [sb8_eq_feedBits_words, feedBits_xor]

/-- Settles O6: both steps are feedback steps, and the slicing step is the update over the bytes of its words. -/
theorem tableStepsAreLinearAndSlicingIsEightBytes : Obligations.TableStepsAreLinearAndSlicingIsEightBytes :=
  ⟨bytestep_xor, bytestep_zero, bytestep_eq_bytestep_zero_byte, sb8_eq_crcUpdate, sb8_xor⟩

end Sys2Proof.Machine
end

section
/-!
The reads of both paths (spec/20_memory.md sections 3 and 4): a list of steps that covers a piece of the buffer, and the widths of
a repeated piece.
-/

namespace Sys2Proof.Machine

/-! ### The addresses read -/

/-- The steps `xs` read the `n` bytes at `p`, each once and in address order (spec/20_memory.md R70). -/
def ReadsInOrder (xs : List ChunkStep) (p n : Nat) : Prop := readAddresses xs = List.range' p n

theorem ReadsInOrder.append {xs ys : List ChunkStep} {p n k : Nat} (hx : ReadsInOrder xs p n)
    (hy : ReadsInOrder ys (p + n) k) : ReadsInOrder (xs ++ ys) p (n + k) := by
  have happ : readAddresses (xs ++ ys) = readAddresses xs ++ readAddresses ys := by simp [readAddresses]
  rw [ReadsInOrder, happ, hx, hy, List.range'_append_1]

theorem ReadsInOrder.strided {size : Nat} {body : Nat → List ChunkStep}
    (h : ∀ q, ReadsInOrder (body q) q size) (p n : Nat) : ReadsInOrder (strided size body p n) p (size * n) := by
  induction n generalizing p with
  | zero => rfl
  | succ n ih =>
    rw [strided_succ, Nat.mul_succ, Nat.add_comm (size * n)]
    exact (h p).append (ih (p + size))

theorem readsInOrder_feed64 (p : Nat) : ReadsInOrder [.feed64 p] p 8 := rfl

theorem readsInOrder_feed16 (p : Nat) : ReadsInOrder [.feed16 p] p 2 := rfl

theorem readsInOrder_table8 (p : Nat) : ReadsInOrder [.table8 p] p 1 := rfl

theorem readsInOrder_slice8 (p : Nat) : ReadsInOrder [.slice8 p] p 8 := rfl

theorem readsInOrder_hwBlock (p : Nat) : ReadsInOrder (hwBlock p) p 32 :=
  (((readsInOrder_feed64 p).append (readsInOrder_feed64 (p + 8))).append (readsInOrder_feed64 (p + 16))).append
    (readsInOrder_feed64 (p + 24))

theorem readsInOrder_hwSteps (p len : Nat) : ReadsInOrder (hwSteps p len) p len := by
  have hlast (q : Nat) : ReadsInOrder (if len % 32 % 8 % 2 = 1 then [.feed8 q] else []) q (len % 32 % 8 % 2) := by
    split
    next h => rw [h]; rfl
    next h => rw [show len % 32 % 8 % 2 = 0 by omega]; rfl
  have hcut : 32 * (len / 32) + 8 * (len % 32 / 8) + 2 * (len % 32 % 8 / 2) + len % 32 % 8 % 2 = len := by omega
  have h := (((ReadsInOrder.strided readsInOrder_hwBlock p (len / 32)).append
    (.strided readsInOrder_feed64 _ (len % 32 / 8))).append (.strided readsInOrder_feed16 _ (len % 32 % 8 / 2))).append
    (hlast _)
  rw [hcut] at h
  simpa only [hwSteps, Nat.add_assoc] using h

theorem readsInOrder_swSteps (p len : Nat) : ReadsInOrder (swSteps p len) p len := by
  have hlead : swLead p len ≤ len := Nat.min_le_right _ _
  have hcut : 1 * swLead p len + 8 * ((len - swLead p len) / 8) + 1 * ((len - swLead p len) % 8) = len := by omega
  have h := ((ReadsInOrder.strided readsInOrder_table8 p (swLead p len)).append
    (.strided readsInOrder_slice8 _ ((len - swLead p len) / 8))).append
    (.strided readsInOrder_table8 _ ((len - swLead p len) % 8))
  rw [hcut] at h
  simpa only [swSteps, Nat.one_mul, Nat.add_assoc] using h

/-- Settles O12: the pieces of either cutting stand one after the other, from the first address to the last. -/
theorem everyBufferByteReadOnceInOrder : Obligations.EveryBufferByteReadOnceInOrder :=
  fun p len => ⟨readsInOrder_hwSteps p len, readsInOrder_swSteps p len⟩

/-! ### The widths of the reads -/

@[simp] theorem readWidths_append (xs ys : List ChunkStep) :
    readWidths (xs ++ ys) = readWidths xs ++ readWidths ys := by simp [readWidths]

/-- A body of `k` reads of one width, repeated. -/
theorem readWidths_strided {size k width : Nat} {body : Nat → List ChunkStep}
    (h : ∀ q, readWidths (body q) = List.replicate k width) (p n : Nat) :
    readWidths (strided size body p n) = List.replicate (k * n) width := by
  induction n generalizing p with
  | zero => rfl
  | succ n ih => rw [strided_succ, readWidths_append, h, ih, List.replicate_append_replicate, Nat.mul_succ, Nat.add_comm]

theorem readWidths_hwSteps (p len : Nat) :
    readWidths (hwSteps p len) =
      List.replicate (4 * (len / 32)) 8 ++ List.replicate (len % 32 / 8) 8 ++ List.replicate (len % 8 / 2) 2
        ++ List.replicate (len % 2) 1 := by
  have h8 : len % 32 % 8 = len % 8 := by omega
  have h2 : len % 8 % 2 = len % 2 := by omega
  have hlast (q : Nat) : readWidths (if len % 2 = 1 then [.feed8 q] else []) = List.replicate (len % 2) 1 := by
    split
    next h => rw [h]; rfl
    next h => rw [show len % 2 = 0 by omega]; rfl
  have hblocks := readWidths_strided (size := 32) (body := hwBlock) (k := 4) (width := 8) fun _ => rfl
  have hwords := readWidths_strided (size := 8) (body := fun q => [.feed64 q]) (k := 1) (width := 8) fun _ => rfl
  have hpairs := readWidths_strided (size := 2) (body := fun q => [.feed16 q]) (k := 1) (width := 2) fun _ => rfl
  simp only [hwSteps, h8, h2, readWidths_append, hblocks, hwords, hpairs, hlast, Nat.one_mul]

theorem readWidths_swSteps (p len : Nat) :
    readWidths (swSteps p len) =
      List.replicate (swLead p len) 1 ++ List.replicate (2 * ((len - swLead p len) / 8)) 4
        ++ List.replicate ((len - swLead p len) % 8) 1 := by
  have hbytes (q n : Nat) : readWidths (strided 1 (fun q => [.table8 q]) q n) = List.replicate n 1 := by
    rw [readWidths_strided (k := 1) (width := 1) fun _ => rfl, Nat.one_mul]
  rw [swSteps, readWidths_append, readWidths_append, hbytes, hbytes,
    readWidths_strided (k := 2) (width := 4) fun _ => rfl]

/-- Settles O11: each loop of either path repeats reads of one width. -/
theorem readWidthsOfBothPaths : Obligations.ReadWidthsOfBothPaths :=
  fun p len => ⟨readWidths_hwSteps p len, readWidths_swSteps p len⟩

/-! ### Alignment -/

/-- A step of a loop is one of the body at a whole number of strides. -/
theorem mem_strided {size : Nat} {body : Nat → List ChunkStep} {p n : Nat} {x : ChunkStep}
    (h : x ∈ strided size body p n) : ∃ j < n, x ∈ body (p + size * j) := by
  induction n generalizing p with
  | zero => cases h
  | succ n ih =>
    rcases List.mem_append.1 h with h | h
    · exact ⟨0, Nat.succ_pos n, h⟩
    · obtain ⟨j, hj, hx⟩ := ih h
      exact ⟨j + 1, Nat.succ_lt_succ hj, by rwa [Nat.mul_succ, Nat.add_comm (size * j), ← Nat.add_assoc]⟩

/-- Where the Software Path has whole groups, its leading bytes reach a 4-byte boundary. -/
theorem swLead_aligns {p len : Nat} (h : 0 < (len - swLead p len) / 8) : (p + swLead p len) % 4 = 0 := by
  unfold swLead at *
  omega

/-- A read of the Software Path is a read of one byte or stands at a multiple of 4. -/
theorem swSteps_read_aligned {p len : Nat} {x : ChunkStep} (hx : x ∈ swSteps p len) :
    (∃ q, x = .table8 q) ∨ ∃ q, x = .slice8 q ∧ q % 4 = 0 := by
  have hbyte (q n : Nat) (h : x ∈ strided 1 (fun q => [.table8 q]) q n) : ∃ q, x = .table8 q := by
    obtain ⟨j, -, hj⟩ := mem_strided h
    exact ⟨_, List.mem_singleton.1 hj⟩
  rcases List.mem_append.1 hx with hx | hx
  · rcases List.mem_append.1 hx with hx | hx
    · exact .inl (hbyte _ _ hx)
    · obtain ⟨j, hlt, hj⟩ := mem_strided hx
      have hp : (p + swLead p len) % 4 = 0 := swLead_aligns (Nat.zero_lt_of_lt hlt)
      exact .inr ⟨_, List.mem_singleton.1 hj, by omega⟩
  · exact .inl (hbyte _ _ hx)

/-- Settles O13: the 4-byte reads are those of the groups, and the widths of `HWSUM` are a function of the length. -/
theorem wordReadsAreAligned : Obligations.WordReadsAreAligned := by
  refine ⟨fun p len r hr hwidth => ?_, fun p q len => by rw [readWidths_hwSteps, readWidths_hwSteps]⟩
  obtain ⟨x, hx, hr⟩ := List.mem_flatMap.1 hr
  rcases swSteps_read_aligned hx with ⟨q, rfl⟩ | ⟨q, rfl, hq⟩
  · rw [List.mem_singleton.1 hr] at hwidth
    cases hwidth
  · rcases List.mem_pair.1 hr with rfl | rfl
    · exact hq
    · exact (Nat.add_mod_right q 4).trans hq

end Sys2Proof.Machine
end

section
/-!
The assembler's commands (spec/30_encoding.md R103): a line is taken exactly when its operands fit, and then its packet is the
canonical packet of the command.
-/

namespace Sys2Proof.Machine

/-! ### What the assembler answers -/

/-- A command is taken under the condition that its operands fit. -/
theorem assemble_command_ite {a : Asm} {i : Instr} {P : Prop} [Decidable P] (hwf : asmWellFormed a = decide P)
    (hpacket : P → asmPacket a = encodePacket i) :
    assemble (.command a) = if P then some (encodePacket i) else none := by
  by_cases hP : P
  · rw [assemble_command (by rw [hwf, decide_eq_true hP]), if_pos hP, hpacket hP]
  · rw [if_neg hP]
    exact if_neg (by rw [lineWellFormed, hwf, decide_eq_false hP]; decide)

theorem fitsBuffer_eq (crc addr len : Nat) :
    fitsBuffer crc addr len = decide (crc < 2 ^ 32 ∧ addr < 2 ^ 64 ∧ len < 2 ^ 64) := by
  simp only [fitsBuffer, fits, Bool.decide_and, Bool.and_assoc]

/-! ### The operand field of the packet -/

/-- A number that fits the operand fills the field with zeros above it. -/
theorem ofNat_eq_setWidth_ofNat {w v : Nat} (hw : w ≤ 64) (h : v < 2 ^ w) :
    BitVec.ofNat 64 v = (BitVec.ofNat w v).setWidth 64 := by
  have h64 : v < 2 ^ 64 := h.trans_le (Nat.pow_le_pow_right (by decide) hw)
  apply BitVec.eq_of_toNat_eq
  rw [BitVec.toNat_setWidth, BitVec.toNat_ofNat, BitVec.toNat_ofNat, Nat.mod_eq_of_lt h]

theorem ofNat_bit {v : Nat} (h : v < 2) : BitVec.ofNat 64 v = (BitVec.ofBool (v == 1)).setWidth 64 := by
  interval_cases v <;> rfl

/-- A number of 64 bits is its two words. -/
theorem ofNat_words {v : Nat} (h : v < 2 ^ 64) :
    BitVec.ofNat 64 v = BitVec.ofNat 32 (v / 2 ^ 32) ++ BitVec.ofNat 32 v := by
  have hlow : (BitVec.ofNat 64 v).setWidth 32 = BitVec.ofNat 32 v := BitVec.setWidth_ofNat_of_le (by decide) v
  have hhigh : (BitVec.ofNat 64 v >>> 32).setWidth 32 = BitVec.ofNat 32 (v / 2 ^ 32) := by
    apply BitVec.eq_of_toNat_eq
    simp only [BitVec.toNat_setWidth, BitVec.toNat_ushiftRight, BitVec.toNat_ofNat, Nat.shiftRight_eq_div_pow]
    omega
  exact (append_words_eq.2 ⟨hlow, hhigh⟩).symm

/-- The packet of a step command, from its operand field (R93: format D). -/
theorem packetOf_arg_congr (op : Byte) {x y : BitVec 64} (h : x = y) :
    packetOf op 0#32 x 0#64 = packetOf op 0#32 y 0#64 := h ▸ rfl

/-- The two words of `SB8 w0, w1` fit exactly when both are below `2^32`. -/
theorem assemble_sb8Words (w0 w1 : Nat) :
    assemble (.pseudo (.sb8Words w0 w1)) = if w0 < 2 ^ 32 ∧ w1 < 2 ^ 32 then
      some (encodePacket (.sb8 (BitVec.ofNat 32 w0) (BitVec.ofNat 32 w1))) else none := by
  have hwf : pseudoWellFormed (.sb8Words w0 w1) = decide (w0 < 2 ^ 32 ∧ w1 < 2 ^ 32) := by
    simp only [pseudoWellFormed, fits, Bool.decide_and]
  by_cases h : w0 < 2 ^ 32 ∧ w1 < 2 ^ 32
  · rw [assemble_pseudo (by rw [hwf, decide_eq_true h]), if_pos h, expandPseudo, asmPacket_sb8_join h.1 h.2]
  · rw [if_neg h]
    exact if_neg (by rw [lineWellFormed, hwf, decide_eq_false h]; decide)

/-- Settles O22: in each row the condition is that of the operand widths, and a number that fits its field is not truncated. -/
theorem assemblerTakesExactlyFittingOperands : Obligations.AssemblerTakesExactlyFittingOperands := by
  have hstep (op : Byte) {w v : Nat} (hw : w ≤ 64) (h : v < 2 ^ w) :
      packetOf op 0#32 (BitVec.ofNat 64 v) 0#64 = packetOf op 0#32 ((BitVec.ofNat w v).setWidth 64) 0#64 :=
    packetOf_arg_congr op (ofNat_eq_setWidth_ofNat hw h)
  refine ⟨assemble_command rfl, assemble_command rfl, assemble_command rfl, fun v => ⟨?_, ?_, ?_, ?_, ?_, ?_, ?_⟩,
    fun crc addr len => ⟨?_, ?_, ?_⟩, assemble_pseudo rfl, assemble_pseudo rfl, assemble_pseudo rfl, assemble_sb8Words⟩
  · exact assemble_command_ite rfl fun _ => rfl
  · exact assemble_command_ite rfl fun h => packetOf_arg_congr 0x03#8 (ofNat_bit h)
  · exact assemble_command_ite rfl (hstep 0x40#8 (by decide))
  · exact assemble_command_ite rfl (hstep 0x41#8 (by decide))
  · exact assemble_command_ite rfl fun _ => rfl
  · exact assemble_command_ite rfl (hstep 0x80#8 (by decide))
  · exact assemble_command_ite rfl fun h => packetOf_arg_congr 0x83#8 (ofNat_words h)
  all_goals exact assemble_command_ite (fitsBuffer_eq crc addr len) fun _ => rfl

end Sys2Proof.Machine
end

section
/-!
What each command does where it completes (spec/40_gate_and_registers.md to spec/43_dispatcher.md): the step commands update `ACC`
by their step, the buffer commands by the single-byte update over a readable buffer.
-/

namespace Sys2Proof.Machine

/-! ### The step commands -/

/-- Settles O26: `fsw` is bit 0 of `cmd.arg`, which is bit 40 of the packet, and the answer is the view with it. -/
theorem wrctlWritesOverride : Obligations.WrctlWritesOverride := by
  refine ⟨fun p h => ?_, fun s v => ?_⟩
  · have hbit : (packetArg p).getLsbD 0 = p.getLsbD 40 := by
      rw [packetArg, BitVec.getLsbD_extractLsb', decide_eq_true (by decide), Bool.true_and]
    rw [decodePacket_wrctl h, hbit]
  · rw [← statusView_eq_ofNat]
    rfl

/-- With the feedback network a checked update is the update. -/
theorem whenAvailable_updateAcc {s : State} {a : Word} (f : Word → Word) (hw : s.cfg.hwavail = true)
    (ha : s.acc? = some a) :
    whenAvailable s (updateAcc s f) = .next { s with accs := s.accs.set s.ctx (f a), rsp := some (f a) } := by
  rw [whenAvailable_true hw, updateAcc_of_acc f ha]

/-- Settles O28: the feedback steps are the written-out loops. -/
theorem feedbackCommandsStepAcc : Obligations.FeedbackCommandsStepAcc := by
  intro s a hw ha
  obtain ⟨h8, h16, h64⟩ := feedbackStepsAreTheWrittenOutLoops a
  refine ⟨fun d => ?_, fun d => ?_, fun d => ?_⟩
  · rw [← h8]
    exact whenAvailable_updateAcc (fb8 · d) hw ha
  · rw [← h16]
    exact whenAvailable_updateAcc (fb16 · d) hw ha
  · rw [← h64]
    exact whenAvailable_updateAcc (fb64 · d) hw ha

/-- The slicing step is the update over the bytes of its 64-bit operand (spec/30_encoding.md R96). -/
theorem sb8_eq_crcUpdate_bytesOf64 (c w0 w1 : Word) : sb8 c w0 w1 = crcUpdate c (bytesOf64 (w1 ++ w0)) := by
  rw [sb8_eq_crcUpdate, bytesOf64, map_byteAt_append w1 w0 (k := 4) rfl 4]

theorem exec_sb8_of_acc {s : State} {a : Word} (w0 w1 : Word) (h : s.acc? = some a) :
    exec (.sb8 w0 w1) s = .next { s with accs := s.accs.set s.ctx (sb8 a w0 w1), rsp := some (sb8 a w0 w1) } :=
  updateAcc_of_acc (sb8 · w0 w1) h

/-- Settles O29: one byte is one byte step, and the slicing step is eight. -/
theorem tableCommandsStepAcc : Obligations.TableCommandsStepAcc := by
  intro s a ha
  refine ⟨fun d => updateAcc_of_acc (bytestep · d) ha, fun w0 w1 => ?_⟩
  rw [← sb8_eq_crcUpdate_bytesOf64]
  exact exec_sb8_of_acc w0 w1 ha

/-! ### The buffer commands over a readable buffer -/

/-- A buffer whose bytes are known is admitted. -/
theorem admitted_of_bufferHolds {m : Memory} {a : Nat} {bs : List Byte} (h : BufferHolds m a bs) :
    Admitted m a bs.length :=
  (admitted_iff_firstUnreadable _ _ _).2 (Memory.firstUnreadable_of_bufferHolds h)

/-- An admitted buffer has bytes. -/
theorem exists_bufferHolds_of_admitted {m : Memory} {a n : Nat} (h : Admitted m a n) :
    ∃ bs : List Byte, bs.length = n ∧ BufferHolds m a bs := by
  have hread := (Memory.firstUnreadable_eq_none_iff m a n).1 ((admitted_iff_firstUnreadable m a n).1 h)
  refine ⟨(List.range n).map fun j => (m.byte? (a + j)).getD 0#8, by simp, fun j hj => ?_⟩
  have hjn : j < n := by simpa using hj
  obtain ⟨b, hb⟩ := Option.isSome_iff_exists.1 (hread (a + j) (by omega) (by omega))
  simp [hb]

section
variable {s : State} {addr : Addr} {len : Len} {bs : List Byte}

/-- The Hardware Path's command, where there is the network, loads the single-byte update over the buffer (R146 with R15). -/
theorem exec_hwsum_of_bufferHolds (crc : Word) (hw : s.cfg.hwavail = true) (hl : bs.length = len.toNat)
    (hm : BufferHolds s.mem addr.toNat bs) :
    exec (.hwsum crc addr len) s = updateAcc s fun _ => crcUpdate crc bs := by
  have hadm := admitted_of_bufferHolds hm
  have hsum := hwsum_of_bufferHolds crc hm
  rw [hl] at hadm hsum
  rw [exec, execHwsum, whenAvailable_true hw, whenAdmitted_of_admitted hadm, hsum, finishSum_ok]

/-- The Software Path's command loads the same on every engine (R166 with R15). -/
theorem exec_swsum_of_bufferHolds (crc : Word) (hl : bs.length = len.toNat) (hm : BufferHolds s.mem addr.toNat bs) :
    exec (.swsum crc addr len) s = updateAcc s fun _ => crcUpdate crc bs := by
  have hadm := admitted_of_bufferHolds hm
  have hsum := swsum_of_bufferHolds crc hm
  rw [hl] at hadm hsum
  rw [exec, execSwsum, whenAdmitted_of_admitted hadm, hsum, finishSum_ok]

/-- Whichever path is selected, the sum is the same. -/
theorem selectedSum_of_bufferHolds (crc : Word) (hl : bs.length = len.toNat) (hm : BufferHolds s.mem addr.toNat bs) :
    selectedSum s crc addr.toNat len.toNat = .ok (crcUpdate crc bs) := by
  rw [selectedSum, ← hl, hwsum_of_bufferHolds crc hm, swsum_of_bufferHolds crc hm, ite_self]

/-- The Dispatcher fills the cache and loads the same on every engine (R181, R182 with R15). -/
theorem exec_cksum_of_bufferHolds (crc : Word) (hl : bs.length = len.toNat) (hm : BufferHolds s.mem addr.toNat bs) :
    exec (.cksum crc addr len) s = updateAcc (s.fillCache (cachedGate s)) fun _ => crcUpdate crc bs := by
  have hadm := admitted_of_bufferHolds hm
  rw [hl] at hadm
  rw [exec, execCksum, whenAdmitted_of_admitted hadm, selectedSum_of_bufferHolds crc hl hm, finishSum_ok]

end

/-- Settles O30: the sum of the Hardware Path, loaded into an existing `ACC`. -/
theorem hwsumAnswersCrcUpdate : Obligations.HwsumAnswersCrcUpdate := by
  intro s a crc addr len bs hw ha hl hm
  rw [exec_hwsum_of_bufferHolds crc hw hl hm]
  exact updateAcc_of_acc _ ha

/-- Settles O31: the sum of the Software Path, loaded into an existing `ACC`. -/
theorem swsumAnswersCrcUpdate : Obligations.SwsumAnswersCrcUpdate := by
  intro s a crc addr len bs ha hl hm
  rw [exec_swsum_of_bufferHolds crc hl hm]
  exact updateAcc_of_acc _ ha

/-- Settles O32: the cache is filled before `ACC` is loaded, and neither touches the other. -/
theorem cksumAnswersCrcUpdateAndFillsCache : Obligations.CksumAnswersCrcUpdateAndFillsCache := by
  intro s a crc addr len bs ha hl hm
  have hacc : (s.fillCache (cachedGate s)).acc? = some a := ha
  rw [exec_cksum_of_bufferHolds crc hl hm]
  exact updateAcc_of_acc _ hacc

/-! ### What the response of `CKSUM` depends on -/

/-- Settles O48: both answers are the update over the same bytes. -/
theorem cksumResponseIsPure : Obligations.CksumResponseIsPure := by
  intro s s' t t' crc addr len hmem h h'
  obtain ⟨hadm, -⟩ := whenAdmitted_eq_next.1 h
  obtain ⟨bs, hl, hm⟩ := exists_bufferHolds_of_admitted hadm
  rw [exec_cksum_of_bufferHolds crc hl hm] at h
  rw [exec_cksum_of_bufferHolds crc hl (hmem ▸ hm)] at h'
  obtain ⟨a, -, rfl⟩ := updateAcc_eq_next.1 h
  obtain ⟨a', -, rfl⟩ := updateAcc_eq_next.1 h'
  exact ⟨rfl, rfl⟩

/-- `CKSUM` in any state that reads the buffer and has the context: its answer stands in `ACC`, and memory stays. -/
theorem exec_cksum_answers {s : State} {a : Word} (crc : Word) {addr : Addr} {len : Len} {bs : List Byte}
    (ha : s.accs[s.ctx]? = some a) (hl : bs.length = len.toNat) (hm : BufferHolds s.mem addr.toNat bs) :
    ∃ t, exec (.cksum crc addr len) s = .next t ∧ t.rsp = some (crcUpdate crc bs) ∧ t.mem = s.mem ∧
      t.accs[t.ctx]? = some (crcUpdate crc bs) := by
  obtain ⟨hctx, -⟩ := List.getElem?_eq_some_iff.1 ha
  exact ⟨_, cksumAnswersCrcUpdateAndFillsCache s a crc addr len bs ha hl hm, rfl, rfl, List.getElem?_set_self hctx⟩

/-- Settles O49: every command named answers the update over its bytes, and the update over two parts is that over the whole. -/
theorem splittingAndPathsDoNotShow : Obligations.SplittingAndPathsDoNotShow := by
  intro s a crc a1 a2 a3 l1 l2 l3 bs1 bs2 ha hl1 hl2 hl3 hm1 hm2 hm3
  have hsecond (u : State) (b : Word) (hb : u.accs[u.ctx]? = some b) (hu : BufferHolds u.mem a2.toNat bs2) :
      ∃ t, exec (.cksum (crcUpdate crc bs1) a2 l2) u = .next t ∧ t.rsp = some (crcUpdate crc (bs1 ++ bs2)) := by
    obtain ⟨t, ht, hrsp, -⟩ := exec_cksum_answers (crcUpdate crc bs1) hb hl2 hu
    exact ⟨t, ht, hrsp.trans (by rw [crcUpdate_append])⟩
  obtain ⟨t1, h1, hr1, hmem1, hacc1⟩ := exec_cksum_answers crc ha hl1 hm1
  obtain ⟨t2, h2, hr2⟩ := hsecond t1 _ hacc1 (hmem1 ▸ hm2)
  obtain ⟨t3, h3, hr3, -⟩ := exec_cksum_answers crc ha hl3 hm3
  have h4 := swsumAnswersCrcUpdate s a crc a3 l3 _ ha hl3 hm3
  have h6 (hw : s.cfg.hwavail = true) := hwsumAnswersCrcUpdate s a crc a3 l3 _ hw ha hl3 hm3
  obtain ⟨t5, h5, hr5, -⟩ := exec_cksum_answers crc (addr := a3) (len := 0#64) ha rfl (bufferHolds_nil s.mem _)
  exact ⟨t1, t2, t3, _, t5, crcUpdate crc bs1, crcUpdate crc (bs1 ++ bs2), h1, hr1, h2, hr2, hsecond, h3, hr3, h4, rfl,
    fun hw => ⟨_, h6 hw, rfl⟩, h5, hr5⟩

end Sys2Proof.Machine
end

section
/-!
How a command ends (spec/60_exceptions.md sections 1 and 2): the availability check, the admission check, and then an answer
unless the requester context does not exist.
-/

namespace Sys2Proof.Machine

section
variable {i : Instr} {s : State}

/-- No network where the command needs it (R225): nothing else of the command is looked at. -/
theorem exec_of_no_network (hn : needsHardware i = true) (hw : s.cfg.hwavail = false) :
    exec i s = .fault .hwUnavailable := by
  cases i with
  | fb8 | fb16 | fb64 | hwsum => exact whenAvailable_false hw _
  | rdacc | ldacc | rdstat | wrctl | probe | tbl8 | sb8 | cksum | swsum => cases hn

theorem whenAdmitted_of_unreadable {addr : Addr} {len : Len} {x : Nat}
    (hx : s.mem.firstUnreadable addr.toNat len.toNat = some x) (k : Host.Outcome State Fault Refusal) :
    whenAdmitted s addr len k = .fault (.bufferFault x) := by
  simp only [whenAdmitted, hx, raise_eq]

/-- The buffer is not admitted, the network being there if the command needs it (R222, R228). -/
theorem exec_of_unreadable {x : Nat} (hn : needsHardware i = true → s.cfg.hwavail = true)
    (hx : s.mem.firstUnreadable (bufferOf i).1 (bufferOf i).2 = some x) : exec i s = .fault (.bufferFault x) := by
  cases i with
  | cksum | swsum => exact whenAdmitted_of_unreadable hx _
  | hwsum => exact (whenAvailable_true (hn rfl) _).trans (whenAdmitted_of_unreadable hx _)
  | rdacc | ldacc | rdstat | wrctl | probe | fb8 | fb16 | fb64 | tbl8 | sb8 => cases hx

/-! ### A command that nothing stands in the way of -/

/-- What a command can still end in after its checks: an answer, or the refusal of a context that does not exist. -/
def PastChecks (s : State) (o : Host.Outcome State Fault Refusal) : Prop :=
  (∃ t, o = .next t) ∨ (s.acc? = none ∧ o = .refused (.noContext s.ctx))

theorem pastChecks_respondAcc (s : State) : PastChecks s (respondAcc s) := by
  rcases respondAcc_cases s with ⟨a, -, hr⟩ | hr
  · exact .inl ⟨_, hr⟩
  · exact .inr hr

theorem pastChecks_updateAcc (s : State) (f : Word → Word) : PastChecks s (updateAcc s f) := by
  rcases updateAcc_cases s f with ⟨a, -, hr⟩ | hr
  · exact .inl ⟨_, hr⟩
  · exact .inr hr

theorem pastChecks_whenAvailable {k : Host.Outcome State Fault Refusal} (hw : s.cfg.hwavail = true)
    (hk : PastChecks s k) : PastChecks s (whenAvailable s k) := by
  rwa [whenAvailable_true hw]

theorem exec_pastChecks (h : CanComplete i s) : PastChecks s (exec i s) := by
  obtain ⟨hn, hadm⟩ := h
  cases i with
  | rdacc => exact pastChecks_respondAcc s
  | rdstat | wrctl | probe => exact .inl ⟨_, rfl⟩
  | ldacc | tbl8 | sb8 => exact pastChecks_updateAcc s _
  | fb8 | fb16 | fb64 => exact pastChecks_whenAvailable (hn rfl) (pastChecks_updateAcc s _)
  | hwsum crc addr len =>
    obtain ⟨bs, hl, hm⟩ := exists_bufferHolds_of_admitted hadm
    exact exec_hwsum_of_bufferHolds crc (hn rfl) hl hm ▸ pastChecks_updateAcc s _
  | swsum crc addr len =>
    obtain ⟨bs, hl, hm⟩ := exists_bufferHolds_of_admitted hadm
    exact exec_swsum_of_bufferHolds crc hl hm ▸ pastChecks_updateAcc s _
  | cksum crc addr len =>
    obtain ⟨bs, hl, hm⟩ := exists_bufferHolds_of_admitted hadm
    exact exec_cksum_of_bufferHolds crc hl hm ▸ pastChecks_updateAcc (s.fillCache (cachedGate s)) _

/-- Every way a command can end, with the condition under which it ends so (R226). -/
theorem exec_outcomes (i : Instr) (s : State) :
    (needsHardware i = true ∧ s.cfg.hwavail = false ∧ exec i s = .fault .hwUnavailable) ∨
      ((needsHardware i = true → s.cfg.hwavail = true) ∧
        ∃ x, s.mem.firstUnreadable (bufferOf i).1 (bufferOf i).2 = some x ∧ exec i s = .fault (.bufferFault x)) ∨
      (CanComplete i s ∧ PastChecks s (exec i s)) := by
  by_cases hn : needsHardware i = true → s.cfg.hwavail = true
  · cases hx : s.mem.firstUnreadable (bufferOf i).1 (bufferOf i).2 with
    | some x => exact .inr (.inl ⟨hn, x, rfl, exec_of_unreadable hn hx⟩)
    | none =>
      have hc : CanComplete i s := ⟨hn, (admitted_iff_firstUnreadable _ _ _).2 hx⟩
      exact .inr (.inr ⟨hc, exec_pastChecks hc⟩)
  · rw [Classical.not_imp, Bool.not_eq_true] at hn
    exact .inl ⟨hn.1, hn.2, exec_of_no_network hn.1 hn.2⟩

theorem PastChecks.ne_fault {o : Host.Outcome State Fault Refusal} (h : PastChecks s o) (f : Fault) : o ≠ .fault f := by
  rcases h with ⟨t, rfl⟩ | ⟨-, rfl⟩ <;> nofun

theorem State.acc?_eq_none_iff : s.acc? = none ↔ s.accs.length ≤ s.ctx := List.getElem?_eq_none_iff

/-- A command of an existing context completes exactly when nothing stands in its way. -/
theorem exec_completes_iff (hctx : s.ctx < s.accs.length) : (∃ t, exec i s = .next t) ↔ CanComplete i s := by
  constructor
  · rintro ⟨t, ht⟩
    rcases exec_outcomes i s with ⟨-, -, hf⟩ | ⟨-, x, -, hf⟩ | ⟨hc, -⟩
    · cases ht.symm.trans hf
    · cases ht.symm.trans hf
    · exact hc
  · intro hc
    rcases exec_pastChecks hc with ht | ⟨hnone, -⟩
    · exact ht
    · exact absurd (State.acc?_eq_none_iff.1 hnone) (by omega)

end

/-- Settles O35: the first check that fails gives the fault, and after both checks there is none. -/
theorem faultsOfEveryCommand : Obligations.FaultsOfEveryCommand := by
  intro i s f
  simp only [← Memory.firstUnreadable_eq_some_iff]
  constructor
  · intro h
    rcases exec_outcomes i s with ⟨hn, hw, hf⟩ | ⟨hn, x, hx, hf⟩ | ⟨-, hp⟩
    · exact .inl ⟨hn, hw, Host.Outcome.fault.inj (h.symm.trans hf)⟩
    · exact .inr ⟨hn, x, Host.Outcome.fault.inj (h.symm.trans hf), hx⟩
    · exact absurd h (hp.ne_fault f)
  · rintro (⟨hn, hw, rfl⟩ | ⟨hn, x, rfl, hx⟩)
    · exact exec_of_no_network hn hw
    · exact exec_of_unreadable hn hx

/-- Settles O34: the address given is the first unreadable one. -/
theorem bufferFaultAtFirstUnreadableByte : Obligations.BufferFaultAtFirstUnreadableByte := by
  intro s crc addr len x hge hlt hnone hbefore
  have hx : s.mem.firstUnreadable addr.toNat len.toNat = some x :=
    (Memory.firstUnreadable_eq_some_iff _ _ _ _).2 ⟨hge, hlt, hnone, hbefore⟩
  exact ⟨exec_of_unreadable nofun hx, exec_of_unreadable nofun hx, fun hw => exec_of_unreadable (fun _ => hw) hx⟩

/-- Settles O36: a refusal is no fault, so the checks were passed, and then only the context can be missing. -/
theorem execRefusesOnlyAbsentContexts : Obligations.ExecRefusesOnlyAbsentContexts := by
  intro i s r h
  rcases exec_outcomes i s with ⟨-, -, hf⟩ | ⟨-, x, -, hf⟩ | ⟨-, ⟨t, ht⟩ | ⟨hnone, hr⟩⟩
  · cases h.symm.trans hf
  · cases h.symm.trans hf
  · cases h.symm.trans ht
  · exact ⟨Host.Outcome.refused.inj (h.symm.trans hr), State.acc?_eq_none_iff.1 hnone⟩

end Sys2Proof.Machine
end

section
/-!
The frame of every command (spec/10_state.md sections 1 and 2): the next states a command can answer, and the commands that do not
read `ACC`.
-/

namespace Sys2Proof.Machine

/-- A command that writes `ACC` and its response and nothing else (spec/10_state.md R23). -/
def WritesAccOnly (i : Instr) : Prop :=
  i ≠ .rdacc ∧ i ≠ .rdstat ∧ i ≠ .probe ∧ (∀ v, i ≠ .wrctl v) ∧ ∀ crc addr len, i ≠ .cksum crc addr len

/-- `Answers s i t`: in state `s` the command `i` can answer the state `t`. What is written stands here field by field, only the
value answered is left open. -/
inductive Answers (s : State) : Instr → State → Prop
  | rdacc (a : Word) (ha : s.acc? = some a) : Answers s .rdacc { s with rsp := some a }
  | rdstat (v : Word) : Answers s .rdstat { s with rsp := some v }
  | probe (v : Word) : Answers s .probe { s with rsp := some v }
  | wrctl (fsw : Bool) (v : Word) : Answers s (.wrctl fsw) { s with fsw := fsw, rsp := some v }
  | cksum (crc : Word) (addr : Addr) (len : Len) (c : Word) (hctx : s.ctx < s.accs.length) :
    Answers s (.cksum crc addr len)
      { s with accs := s.accs.set s.ctx c, rsp := some c, capv := true, capf := cachedGate s }
  | loads (i : Instr) (a : Word) (hctx : s.ctx < s.accs.length) (hi : WritesAccOnly i) :
    Answers s i { s with accs := s.accs.set s.ctx a, rsp := some a }

theorem updateAcc_writes {s t : State} {f : Word → Word} (h : updateAcc s f = .next t) :
    s.ctx < s.accs.length ∧ ∃ a, t = { s with accs := s.accs.set s.ctx a, rsp := some a } := by
  obtain ⟨a, ha, rfl⟩ := updateAcc_eq_next.1 h
  obtain ⟨hctx, -⟩ := List.getElem?_eq_some_iff.1 ha
  exact ⟨hctx, f a, rfl⟩

theorem Answers.of_updateAcc {s t : State} {f : Word → Word} {i : Instr} (h : updateAcc s f = .next t)
    (hi : WritesAccOnly i) : Answers s i t := by
  obtain ⟨hctx, a, rfl⟩ := updateAcc_writes h
  exact .loads i a hctx hi

theorem Answers.of_finishSum {s t : State} {r : Except Fault Word} {i : Instr} (h : finishSum s r = .next t)
    (hi : WritesAccOnly i) : Answers s i t := by
  obtain ⟨c, -, hc⟩ := finishSum_eq_next.1 h
  exact .of_updateAcc hc hi

/-- What a command that completes has written. -/
theorem answers_of_exec {i : Instr} {s t : State} (h : exec i s = .next t) : Answers s i t := by
  cases i with
  | rdacc =>
    obtain ⟨a, ha, rfl⟩ := respondAcc_eq_next.1 h
    exact .rdacc a ha
  | rdstat => cases h; exact .rdstat _
  | wrctl fsw => cases h; exact .wrctl fsw _
  | probe => cases h; exact .probe _
  | ldacc | tbl8 | sb8 => exact .of_updateAcc h (by simp [WritesAccOnly])
  | fb8 | fb16 | fb64 =>
    obtain ⟨-, hk⟩ := whenAvailable_eq_next.1 h
    exact .of_updateAcc hk (by simp [WritesAccOnly])
  | hwsum crc addr len =>
    obtain ⟨-, hk⟩ := whenAvailable_eq_next.1 h
    obtain ⟨-, hsum⟩ := whenAdmitted_eq_next.1 hk
    exact .of_finishSum hsum (by simp [WritesAccOnly])
  | swsum crc addr len =>
    obtain ⟨-, hsum⟩ := whenAdmitted_eq_next.1 h
    exact .of_finishSum hsum (by simp [WritesAccOnly])
  | cksum crc addr len =>
    obtain ⟨-, hsum⟩ := whenAdmitted_eq_next.1 h
    obtain ⟨c, -, hc⟩ := finishSum_eq_next.1 hsum
    obtain ⟨hctx, a, rfl⟩ := updateAcc_writes hc
    exact .cksum crc addr len a hctx

/-- Settles O38: each clause is read off the written fields; a command that loads `ACC` answers what it loads. -/
theorem frameOfEveryCommand : Obligations.FrameOfEveryCommand := by
  intro i s t h
  cases answers_of_exec h with
  | rdacc a ha => simpa [State.acc?] using ha.symm
  | rdstat | probe | wrctl => simp
  | cksum crc addr len c hctx => simpa [hctx] using fun k hk => List.getElem?_set_ne (Ne.symm hk)
  | loads _ a hctx hi =>
    obtain ⟨hrdacc, hrdstat, hprobe, hwrctl, hcksum⟩ := hi
    simpa [hctx, hrdacc, hrdstat, hprobe, hwrctl] using fun k hk => List.getElem?_set_ne (Ne.symm hk)

/-! ### The commands that do not read `ACC` -/

/-- Loading a constant hides what `ACC` held. -/
theorem updateAcc_const_set (s : State) (b c : Word) :
    updateAcc { s with accs := s.accs.set s.ctx b } (fun _ => c) = updateAcc s fun _ => c := by
  by_cases hctx : s.ctx < s.accs.length
  · have hb : { s with accs := s.accs.set s.ctx b }.acc? = some b := List.getElem?_set_self hctx
    have ha : s.acc? = some s.accs[s.ctx] := List.getElem?_eq_getElem hctx
    rw [updateAcc_of_acc _ hb, updateAcc_of_acc _ ha]
    simp only [List.set_set]
  · rw [List.set_eq_of_length_le (by omega)]

theorem finishSum_set (s : State) (b : Word) (r : Except Fault Word) :
    finishSum { s with accs := s.accs.set s.ctx b } r = finishSum s r := by
  cases r with
  | error f => rfl
  | ok c => exact updateAcc_const_set s b c

/-- Settles O39: the checks and the sum look at parameters and memory, and the end loads a constant. -/
theorem bufferCommandsDoNotReadAcc : Obligations.BufferCommandsDoNotReadAcc := by
  refine fun s b crc addr len => ⟨updateAcc_const_set s b crc, ?_, ?_, ?_⟩
  · exact congrArg (whenAdmitted s addr len) (finishSum_set (s.fillCache (cachedGate s)) b _)
  · exact congrArg (fun k => whenAvailable s (whenAdmitted s addr len k)) (finishSum_set s b _)
  · exact congrArg (whenAdmitted s addr len) (finishSum_set s b _)

end Sys2Proof.Machine
end

section
/-!
One step of the machine (spec/30_encoding.md R90) and what every step keeps: the invariant, the capability flag, the override,
memory and parameters.
-/

namespace Sys2Proof.Machine

/-! ### What a step can be -/

section
variable {s : State} {rest : List Input}

theorem step_idle (hs : s.inputs = []) : step s = .next s := by
  simp only [step, hs]

theorem step_reset (hs : s.inputs = .reset :: rest) : step s = .next (s.takeReset rest) := by
  simp only [step, hs]

theorem step_platform {addr : Addr} {v : Option Byte} (hs : s.inputs = .platform addr v :: rest) :
    step s = .next (s.platformPut addr v rest) := by
  simp only [step, hs]

theorem step_of_decodePacket_error {c : Nat} {p : Packet} {r : Reject} (hs : s.inputs = .command c p :: rest)
    (hc : c < s.accs.length) (hp : decodePacket p = .error r) : step s = .refused (.reservedCommand (packetOp p)) := by
  simp only [step, hs, hc, hp, if_true]

end

/-- `StepsTo s t`: the step from `s` completes in `t`; one case for each kind of event, and one for none. -/
inductive StepsTo (s : State) : State → Prop
  | idle (hs : s.inputs = []) : StepsTo s s
  | reset (rest : List Input) (hs : s.inputs = .reset :: rest) : StepsTo s (s.takeReset rest)
  | platform (addr : Addr) (v : Option Byte) (rest : List Input) (hs : s.inputs = .platform addr v :: rest) :
    StepsTo s (s.platformPut addr v rest)
  | command (c : Nat) (p : Packet) (rest : List Input) (i : Instr) (t : State) (hs : s.inputs = .command c p :: rest)
    (hc : c < s.accs.length) (hp : decodePacket p = .ok i) (hexec : exec i (s.accept c rest) = .next t) : StepsTo s t

theorem stepsTo_of_step {s t : State} (h : step s = .next t) : StepsTo s t := by
  cases hs : s.inputs with
  | nil =>
    cases (step_idle hs).symm.trans h
    exact .idle hs
  | cons x rest =>
    cases x with
    | reset =>
      cases (step_reset hs).symm.trans h
      exact .reset rest hs
    | platform addr v =>
      cases (step_platform hs).symm.trans h
      exact .platform addr v rest hs
    | command c p =>
      by_cases hc : c < s.accs.length
      · cases hp : decodePacket p with
        | error r => cases (step_of_decodePacket_error hs hc hp).symm.trans h
        | ok i => exact .command c p rest i t hs hc hp ((step_of_decodePacket_ok hs hc hp).symm.trans h)
      · cases (step_of_absent_context hs hc).symm.trans h

/-- Settles O40: a presented command, nothing presented, a context that does not exist. -/
theorem stepExecutesThePresentedCommand : Obligations.StepExecutesThePresentedCommand :=
  ⟨fun _ _ _ _ _ hs hc hp => step_of_decodePacket_ok hs hc hp, fun _ hs => step_idle hs,
    fun _ _ _ _ hs hc => step_of_absent_context hs (Nat.not_lt.2 hc)⟩

/-- Settles O51: a step with a command at the port completes as the command does. -/
theorem commandCompletesExactlyWhenAdmitted : Obligations.CommandCompletesExactlyWhenAdmitted := by
  intro s c p rest hs
  constructor
  · rintro ⟨t, ht⟩
    cases stepsTo_of_step ht with
    | idle hs' | reset rest' hs' | platform addr v rest' hs' => cases hs.symm.trans hs'
    | command c' p' rest' i t hs' hc hp hexec =>
      cases hs.symm.trans hs'
      exact ⟨hc, i, hp, (exec_completes_iff (s := s.accept c rest) hc).1 ⟨t, hexec⟩⟩
  · rintro ⟨hc, i, hp, hcan⟩
    rw [step_of_decodePacket_ok hs hc hp]
    exact (exec_completes_iff (s := s.accept c rest) hc).2 hcan

/-! ### The reset event and the platform's event -/

/-- Settles O41: the fields of the state that the event leaves, and its status view, all bits of which are 0. -/
theorem resetEventClearsTheFlags : Obligations.ResetEventClearsTheFlags := by
  intro s rest hs
  have hview : (s.takeReset rest).view = 0#32 := by
    rw [State.view, State.takeReset_capv, State.takeReset_capf, State.takeReset_fsw, statusView_eq_ofNat]
    rfl
  exact ⟨s.takeReset rest, step_reset hs, rfl, rfl, rfl, by simp, rfl, rfl, rfl, rfl, by rw [exec_rdstat, hview]⟩

/-- Settles O42: the memory is the one `Memory.put` makes, and every address is inside the address space. -/
theorem platformEventChangesOneByte : Obligations.PlatformEventChangesOneByte :=
  fun s addr v _ hwf hs =>
    ⟨s.mem.put addr.toNat v, step_platform hs, Memory.put_wf v addr.isLt hwf, Memory.byte?_put v addr.isLt hwf⟩

/-! ### The invariant -/

theorem afterReset_inv {cfg : Config} {mem : Memory} {accs : List Word} (inputs : List Input) (hm : mem.wf)
    (hn : 1 ≤ cfg.nctx) (hl : accs.length = cfg.nctx) : (State.afterReset cfg mem accs inputs).Inv :=
  ⟨hm, hn, hl, hn, fun _ => rfl, nofun⟩

/-- Settles O43: the machine's own reset is one of the states after a reset. -/
theorem invariantHoldsAfterReset : Obligations.InvariantHoldsAfterReset :=
  ⟨afterReset_inv [] State.reset_mem_wf (le_refl 1) rfl, fun _ _ _ => afterReset_inv⟩

/-- In a reachable state the cached answer is the gate's own (spec/10_state.md R26). -/
theorem cachedGate_eq_hwavail {s : State} (h : s.Inv) : cachedGate s = s.cfg.hwavail := by
  unfold cachedGate
  split
  next hv => exact h.fixed hv
  next => rfl

section
variable {s t : State}

theorem accept_inv {c : Nat} (rest : List Input) (h : s.Inv) (hc : c < s.accs.length) : (s.accept c rest).Inv :=
  ⟨h.memory, h.contexts, h.accumulators, h.accumulators ▸ hc, h.unset, h.fixed⟩

theorem takeReset_inv (rest : List Input) (h : s.Inv) : (s.takeReset rest).Inv :=
  ⟨h.memory, h.contexts, by simp, h.contexts, fun _ => rfl, nofun⟩

theorem platformPut_inv (addr : Addr) (v : Option Byte) (rest : List Input) (h : s.Inv) :
    (s.platformPut addr v rest).Inv :=
  ⟨Memory.put_wf v addr.isLt h.memory, h.contexts, h.accumulators, h.requester, h.unset, h.fixed⟩

/-- A command writes no memory, keeps the number of accumulators, and fills the cache with the gate's answer or not at all. -/
theorem Answers.inv {i : Instr} (ha : Answers s i t) (h : s.Inv) : t.Inv := by
  cases ha with
  | rdacc | rdstat | probe | wrctl => exact ⟨h.memory, h.contexts, h.accumulators, h.requester, h.unset, h.fixed⟩
  | cksum =>
    exact ⟨h.memory, h.contexts, (List.length_set ..).trans h.accumulators, h.requester, nofun,
      fun _ => cachedGate_eq_hwavail h⟩
  | loads => exact ⟨h.memory, h.contexts, (List.length_set ..).trans h.accumulators, h.requester, h.unset, h.fixed⟩

theorem step_inv (h : s.Inv) (hstep : step s = .next t) : t.Inv := by
  cases stepsTo_of_step hstep with
  | idle => exact h
  | reset rest => exact takeReset_inv rest h
  | platform addr v rest => exact platformPut_inv addr v rest h
  | command c p rest i t hs hc hp hexec => exact (answers_of_exec hexec).inv (accept_inv rest h hc)

end

/-- Settles O44: each event keeps the invariant. -/
theorem everyStepKeepsTheInvariant : Obligations.EveryStepKeepsTheInvariant := fun _ _ => step_inv

/-! ### The capability flag, the override, memory -/

section
variable {s t : State}

/-- The opcode of a command that was decoded from a packet stands in the packet. -/
theorem packetOp_of_decodePacket {p : Packet} {i : Instr} {op : Byte} (hp : decodePacket p = .ok i)
    (hop : opcodeOf i = op) : packetOp p = op :=
  (opcodeOf_of_decodePacket hp).symm.trans hop

/-- A command keeps the capability flag, or it is a `CKSUM` and fixes it at the gate's answer. -/
theorem Answers.cache {i : Instr} (ha : Answers s i t) :
    (t.capv = s.capv ∧ t.capf = s.capf) ∨ (opcodeOf i = 0xC0#8 ∧ t.capv = true ∧ t.capf = cachedGate s) := by
  cases ha with
  | rdacc | rdstat | probe | wrctl | loads => exact .inl ⟨rfl, rfl⟩
  | cksum => exact .inr ⟨rfl, rfl, rfl⟩

/-- A step keeps the capability flag, is a reset, or executes a `CKSUM`. -/
theorem step_cache (hstep : step s = .next t) :
    (t.capv = s.capv ∧ t.capf = s.capf) ∨ (s.inputs.head? = some .reset ∧ t.capv = false) ∨
      ((∃ c p rest, s.inputs = .command c p :: rest ∧ packetOp p = 0xC0#8) ∧
        t.capv = true ∧ t.capf = cachedGate s) := by
  cases stepsTo_of_step hstep with
  | idle | platform => exact .inl ⟨rfl, rfl⟩
  | reset rest hs => exact .inr (.inl ⟨congrArg List.head? hs, rfl⟩)
  | command c p rest i t hs hc hp hexec =>
    rcases (answers_of_exec hexec).cache with hkept | ⟨hop, hfixed⟩
    · exact .inl hkept
    · exact .inr (.inr ⟨⟨c, p, rest, hs, packetOp_of_decodePacket hp hop⟩, hfixed⟩)

theorem cachedGate_of_capv (h : s.capv = true) : cachedGate s = s.capf := if_pos h

theorem Answers.fsw {i : Instr} (ha : Answers s i t) : t.fsw = s.fsw ∨ opcodeOf i = 0x03#8 := by
  cases ha with
  | rdacc | rdstat | probe | cksum | loads => exact .inl rfl
  | wrctl => exact .inr rfl

end

/-- Settles O45: the flag changes by a `CKSUM` only, which reuses a flag that is set and else takes `HWAVAIL`. -/
theorem capabilityFlagIsWrittenAtMostOnce : Obligations.CapabilityFlagIsWrittenAtMostOnce := by
  intro s t h hstep
  refine ⟨fun hset hnoreset => ?_, fun hunset hset => ?_, (step_inv h hstep).fixed⟩
  · rcases step_cache hstep with ⟨hv, hf⟩ | ⟨hreset, -⟩ | ⟨-, hv, hf⟩
    · exact ⟨hv.trans hset, hf⟩
    · exact absurd hreset hnoreset
    · exact ⟨hv, hf.trans (cachedGate_of_capv hset)⟩
  · rcases step_cache hstep with ⟨hv, -⟩ | ⟨-, hv⟩ | ⟨hcksum, -, hf⟩
    · cases hset.symm.trans (hv.trans hunset)
    · cases hset.symm.trans hv
    · exact ⟨hf.trans (cachedGate_eq_hwavail h), hcksum⟩

/-- Settles O46: event by event, and for a command by its frame. -/
theorem whoMayChangeOverrideAndMemory : Obligations.WhoMayChangeOverrideAndMemory := by
  intro s t hstep
  cases stepsTo_of_step hstep with
  | idle => exact ⟨rfl, fun hne => absurd rfl hne, fun hne => absurd rfl hne⟩
  | reset rest hs => exact ⟨rfl, fun _ => .inl (congrArg List.head? hs), fun hne => absurd rfl hne⟩
  | platform addr v rest hs => exact ⟨rfl, fun hne => absurd rfl hne, fun _ => ⟨addr, v, rest, hs⟩⟩
  | command c p rest i t hs hc hp hexec =>
    have hfsw := (answers_of_exec hexec).fsw
    obtain ⟨a, capv, capf, fsw, rsp, rfl⟩ := exec_ownWrites hexec
    refine ⟨rfl, fun hne => .inr ⟨c, p, rest, hs, ?_⟩, fun hne => absurd rfl hne⟩
    exact packetOp_of_decodePacket hp (hfsw.resolve_left hne)

end Sys2Proof.Machine
end

section
/-!
Runs (spec/60_exceptions.md section 8, spec/70_reset_and_hazards.md section 2): commands of other contexts never touch a context's
`ACC`, and a first command that loads it hides what reset left there.
-/

namespace Sys2Proof.Machine

/-! ### The steps of a run -/

section
variable {s t : State} {n : Nat}

theorem run_succ_of_step (h : step s = .next t) :
    Host.Core.run Sys2Proof.core (n + 1) s = Host.Core.run Sys2Proof.core n t := by
  have hcore : Sys2Proof.core.step s = .next t := h
  simp only [Host.Core.run, hcore]

theorem exists_step_of_run_succ (h : Host.Core.run Sys2Proof.core (n + 1) s = .next t) :
    ∃ u, step s = .next u ∧ Host.Core.run Sys2Proof.core n u = .next t := by
  cases hcore : Sys2Proof.core.step s with
  | next u => exact ⟨u, hcore, by simpa only [Host.Core.run, hcore] using h⟩
  | fault f => simp only [Host.Core.run, hcore, reduceCtorEq] at h
  | refused r => simp only [Host.Core.run, hcore, reduceCtorEq] at h

/-- A run of at least one step depends on the state it starts in through the first step's outcome only. -/
theorem run_succ_congr (h : step s = step t) :
    Host.Core.run Sys2Proof.core (n + 1) s = Host.Core.run Sys2Proof.core (n + 1) t := by
  have hcore : Sys2Proof.core.step s = Sys2Proof.core.step t := h
  simp only [Host.Core.run, hcore]

/-- A step takes one event from the port, if there is one. -/
theorem step_inputs (hstep : step s = .next t) : t.inputs = s.inputs.tail := by
  cases stepsTo_of_step hstep with
  | idle hs => rw [hs, List.tail_nil]
  | reset rest hs | platform addr v rest hs => rw [hs]; rfl
  | command c p rest i t hs hc hp hexec =>
    obtain ⟨a, capv, capf, fsw, rsp, rfl⟩ := exec_ownWrites hexec
    rw [hs]
    rfl

/-- A step that takes at most a command of another context keeps a context's `ACC`. -/
theorem step_keeps_acc {k : Nat} (hother : ∀ x ∈ s.inputs.head?, commandOfOther k x = true) (hstep : step s = .next t) :
    t.accs[k]? = s.accs[k]? := by
  cases stepsTo_of_step hstep with
  | idle | platform => rfl
  | reset rest hs => cases hother .reset (congrArg List.head? hs)
  | command c p rest i t hs hc hp hexec =>
    have hne : k ≠ c := Ne.symm (bne_iff_ne.1 (hother (.command c p) (congrArg List.head? hs)))
    obtain ⟨-, -, -, -, -, -, hframe⟩ := frameOfEveryCommand i _ t hexec
    exact hframe k hne

end

/-- Settles O47: by induction on the number of steps; the events still to come are the rest of those at the port. -/
theorem otherContextsNeverTouchAcc : Obligations.OtherContextsNeverTouchAcc := by
  intro k n
  induction n with
  | zero =>
    intro s t _ hrun
    cases hrun
    rfl
  | succ n ih =>
    intro s t hother hrun
    obtain ⟨u, hstep, hrun⟩ := exists_step_of_run_succ hrun
    have htake : ∀ x, x ∈ s.inputs.head? ∨ x ∈ s.inputs.tail.take n → commandOfOther k x = true := by
      intro x hx
      refine hother x ?_
      cases hs : s.inputs with
      | nil => simp [hs] at hx
      | cons y rest => simpa [hs, eq_comm] using hx
    calc t.accs[k]? = u.accs[k]? := ih u t (fun x hx => htake x (.inr (step_inputs hstep ▸ hx))) hrun
      _ = s.accs[k]? := step_keeps_acc (fun x hx => htake x (.inl hx)) hstep

/-! ### The first write after a reset -/

/-- The commands that write `ACC` without reading it (spec/10_state.md section 2). -/
def LoadsAcc (i : Instr) : Prop :=
  ∃ (crc : Word) (addr : Addr) (len : Len),
    i = .ldacc crc ∨ i = .cksum crc addr len ∨ i = .hwsum crc addr len ∨ i = .swsum crc addr len

section
variable {s : State} {c : Nat} {p : Packet} {i : Instr} {rest : List Input}

theorem LoadsAcc.exec_set (hi : LoadsAcc i) (s : State) (b : Word) :
    exec i { s with accs := s.accs.set s.ctx b } = exec i s := by
  obtain ⟨crc, addr, len, hi⟩ := hi
  obtain ⟨hldacc, hcksum, hhwsum, hswsum⟩ := bufferCommandsDoNotReadAcc s b crc addr len
  rcases hi with rfl | rfl | rfl | rfl
  exacts [hldacc, hcksum, hhwsum, hswsum]

/-- The step that executes such a command has the same outcome whatever the context's `ACC` held. -/
theorem step_set_acc (hs : s.inputs = .command c p :: rest) (hp : decodePacket p = .ok i) (hi : LoadsAcc i) (b : Word) :
    step { s with accs := s.accs.set c b } = step s := by
  by_cases hc : c < s.accs.length
  · have hset : c < (s.accs.set c b).length := by rwa [List.length_set]
    rw [step_of_decodePacket_ok hs hc hp, ← hi.exec_set (s.accept c rest) b]
    exact step_of_decodePacket_ok hs hset hp
  · rw [List.set_eq_of_length_le (Nat.not_lt.1 hc)]

/-- Such a command completes where it can, and leaves its response in `ACC`. -/
theorem step_loadsAcc (hs : s.inputs = .command c p :: rest) (hp : decodePacket p = .ok i) (hi : LoadsAcc i)
    (hc : c < s.accs.length) (hcan : CanComplete i s) :
    ∃ t, step s = .next t ∧ t.inputs = rest ∧ t.rsp.isSome ∧ t.accs[c]? = t.rsp := by
  obtain ⟨t, hexec⟩ := (exec_completes_iff (s := s.accept c rest) hc).2 hcan
  have hstep := (step_of_decodePacket_ok hs hc hp).trans hexec
  have hctx : t.ctx = c := by
    obtain ⟨a, capv, capf, fsw, rsp, rfl⟩ := exec_ownWrites hexec
    rfl
  obtain ⟨-, -, -, hrsp, hsome, -, -⟩ := frameOfEveryCommand i _ t hexec
  refine ⟨t, hstep, by rw [step_inputs hstep, hs, List.tail_cons], hsome, ?_⟩
  rw [← hctx]
  obtain ⟨crc, addr, len, rfl | rfl | rfl | rfl⟩ := hi <;> exact (hrsp nofun nofun nofun).symm

/-- A presented canonical packet is executed as its command. -/
theorem step_encodePacket (hs : s.inputs = .command c (encodePacket i) :: rest) (hc : c < s.accs.length) :
    step s = exec i (s.accept c rest) :=
  step_of_decodePacket_ok hs hc (decodePacket_encodePacket i)

/-- An `SB8` after a first step that has loaded `v` starts at `v`. -/
theorem run_then_sb8 {t : State} {v w0 w1 : Word} {accs : List Word} (hstep : step s = .next t)
    (haccs : t.accs = v :: accs) (ht : t.inputs = .command 0 (encodePacket (.sb8 w0 w1)) :: rest) :
    ∃ u, Host.Core.run Sys2Proof.core 2 s = .next u ∧ u.accs = sb8 v w0 w1 :: accs ∧
      u.rsp = some (sb8 v w0 w1) ∧ u.inputs = rest := by
  have hacc : (t.accept 0 rest).acc? = some v := by rw [State.accept_acc?, haccs]; rfl
  have hsb8 := (step_encodePacket ht (by rw [haccs]; exact Nat.succ_pos _)).trans (exec_sb8_of_acc w0 w1 hacc)
  refine ⟨_, by rw [run_succ_of_step hstep, run_succ_of_step hsb8]; rfl, ?_, rfl, rfl⟩
  simp only [State.accept_accs, State.accept_ctx, haccs, List.set_cons_zero]

end

/-- Settles O50: the first command's step does not see the value, so neither does the rest of the run; and the values of the
first command's answer are those of `LDACC` and of the buffer commands. -/
theorem firstWriteHidesTheResetValue : Obligations.FirstWriteHidesTheResetValue := by
  constructor
  · intro cfg mem accs c b p i rest n hp hi
    have hs : (State.afterReset cfg mem accs (.command c p :: rest)).inputs = .command c p :: rest := rfl
    exact ⟨run_succ_congr (step_set_acc hs hp hi b), step_loadsAcc hs hp hi⟩
  · intro cfg mem a accs v w0 w1 addr len bs rest hl hm
    have hctx : 0 < (a :: accs).length := Nat.succ_pos _
    have hstep (i : Instr) := step_encodePacket (i := i) (c := 0) (s := State.afterReset cfg mem (a :: accs)
      (.command 0 (encodePacket i) :: .command 0 (encodePacket (.sb8 w0 w1)) :: rest)) rfl hctx
    refine ⟨?_, ?_, ?_, fun hw => ?_⟩
    · exact run_then_sb8 ((hstep _).trans (exec_ldacc_of_acc (a := a) v rfl)) rfl rfl
    · exact run_then_sb8 ((hstep _).trans (cksumAnswersCrcUpdateAndFillsCache _ a v addr len bs rfl hl hm)) rfl rfl
    · exact run_then_sb8 ((hstep _).trans (swsumAnswersCrcUpdate _ a v addr len bs rfl hl hm)) rfl rfl
    · exact run_then_sb8 ((hstep _).trans (hwsumAnswersCrcUpdate _ a v addr len bs hw rfl hl hm)) rfl rfl

end Sys2Proof.Machine
end
